-- ==== Sys2Proof/Word.lean ====
section
/-! DEFINITION. The plain types every other file uses: bytes, bay numbers and per-bay tables. -/

namespace Sys2Proof

/-- One byte of a control link frame, a pedestal order or a coach message. -/
abbrev Byte := BitVec 8

/-- A bay, R1: the bay numbered b (1 to 32) is the index b − 1. -/
abbrev Bay := Fin 32

/-- A lamp check context, R133: context k (1 to 4) is the index k − 1. -/
abbrev CtxId := Fin 4

/-- One item of state for each of the 32 bays, R1. -/
abbrev PerBay (α : Type) := Vector α 32

end Sys2Proof
end

