-- ==== Sys2Proof/Syntax.lean ====
section
/-! DEFINITION. The commands of the BD32: one constructor per row of spec/opcode_table.json. -/

namespace Sys2Proof

/-- How one attempt of a bus transaction ended (R23, R24, R25, R34), as the PBC sees it on the wires. -/
inductive Attempt where
  /-- R34: the data line read low in the idle bit. -/
  | idleLow
  /-- R25: a bit sent high read low, after (`true`) or before (`false`) the address byte was acknowledged. -/
  | clash (addressAcked : Bool)
  /-- R23: the address byte was NAKed. -/
  | nakAddress
  /-- R23: the order byte was NAKed. -/
  | nakOrder
  /-- R23: a data byte sent by the BD32 was NAKed. -/
  | nakData
  /-- R24: a WAIT lasted more than 20 ms. -/
  | waitTooLong
  /-- R26: the last byte's hold slot read high; the bytes the pedestal returned. -/
  | done (bytes : List Byte)
deriving DecidableEq, Repr

/-- A command: a request taken by the CLU (its TAG and payload bytes, R198), or an event of the manual's event table. -/
inductive Instr where
  /-- RESET, with the straps LINKRATE1, LINKRATE0, BUSRATE1, BUSRATE0 (`true` is high), R20, R195. -/
  | reset (link1 link0 bus1 bus0 : Bool)
  | secondTick
  | minuteTick
  /-- FRAME_RECEIVED: characters received with good stop bits and no gap over 5 ms, R196. -/
  | frameReceived (chars : List Byte)
  | interCharacterTimeout
  | brokenCharacter
  | frameSent
  | badTypeRequest (type tag : Byte) (payload : List Byte)
  | start (tag : Byte) (payload : List Byte)
  | stop (tag : Byte) (payload : List Byte)
  | configure (tag : Byte) (payload : List Byte)
  | setClock (tag : Byte) (payload : List Byte)
  | setLanes (tag : Byte) (payload : List Byte)
  | setBayService (tag : Byte) (payload : List Byte)
  | setClass (tag : Byte) (payload : List Byte)
  | setLampPlan (tag : Byte) (payload : List Byte)
  | setSeverity (tag : Byte) (payload : List Byte)
  | setScanList (tag : Byte) (payload : List Byte)
  | setParameters (tag : Byte) (payload : List Byte)
  | setBudget (tag : Byte) (payload : List Byte)
  | setWeather (tag : Byte) (payload : List Byte)
  | setNoticeMask (tag : Byte) (payload : List Byte)
  | addDeparture (tag : Byte) (payload : List Byte)
  | cancelDeparture (tag : Byte) (payload : List Byte)
  | listDepartures (tag : Byte) (payload : List Byte)
  | queryBay (tag : Byte) (payload : List Byte)
  | setBayClass (tag : Byte) (payload : List Byte)
  | holdBay (tag : Byte) (payload : List Byte)
  | releaseBay (tag : Byte) (payload : List Byte)
  | waiveHeat (tag : Byte) (payload : List Byte)
  | waiveLamp (tag : Byte) (payload : List Byte)
  | waiveFault (tag : Byte) (payload : List Byte)
  | startLampCheck (tag : Byte) (payload : List Byte)
  | cancelLampCheck (tag : Byte) (payload : List Byte)
  | readLampResult (tag : Byte) (payload : List Byte)
  | readFaults (tag : Byte) (payload : List Byte)
  | refreshFaults (tag : Byte) (payload : List Byte)
  | clearPartFault (tag : Byte) (payload : List Byte)
  | ackOverdue (tag : Byte) (payload : List Byte)
  | identify (tag : Byte) (payload : List Byte)
  | queryDepot (tag : Byte) (payload : List Byte)
  | queryGrants (tag : Byte) (payload : List Byte)
  | gateHold (tag : Byte) (payload : List Byte)
  | gateRelease (tag : Byte) (payload : List Byte)
  /-- GATE_PIN_CHANGE, with the level now read on the pin. -/
  | gatePinChange (high : Bool)
  | gateDebounceExpiry
  | scanStatusReadOutcome (attempts : List Attempt)
  | relaySendOutcome (attempts : List Attempt)
  | pollOutcome (attempts : List Attempt)
  | relayFetchOutcome (attempts : List Attempt)
  | sampleBlockOutcome (attempts : List Attempt)
  | setOutputsOutcome (attempts : List Attempt)
  | allSafeEnd
  | waitLimitExpiry
  /-- STUCK_RECHECK, with the level sampled on the data line. -/
  | stuckRecheck (high : Bool)
  | stuckLineLimit
  | scanRequestPromotion
  | roundStart
  | roundSlowLimit
  | pollDue (bay : Bay)
  | relayTimeLimit (bay : Bay)
  | weatherStale
  | regrantWaitExpiry (bay : Bay)
  | closingStaggerExpiry
  | noLoadLimit (bay : Bay)
  | contactorStuckLimit (bay : Bay)
  | orphanDelayExpiry (bay : Bay)
  | settleTimeExpiry (ctx : CtxId)
  | overdueExpiry (bay : Bay)
  /-- LEN_OUT_OF_RANGE, with the LEN character received right after SOF. -/
  | lenOutOfRange (len : Byte)
deriving DecidableEq, Repr

end Sys2Proof
end

