-- ==== Sys2Proof/Config.lean ====
section
/-! DEFINITION. The constants the manual fixes: capacities, time limits and default parameters. The two
values the manual leaves open are opaque constants (logs 29, 48). -/

namespace Sys2Proof.Config

/-- R197: frames the receive queue holds. -/
def rxCapacity : Nat := 4
/-- R48: entries of the set scan list. -/
def scanCapacity : Nat := 48
/-- R102: steps of the budget schedule. -/
def budgetCapacity : Nat := 8
/-- R129: steps of a lamp plan. -/
def planCapacity : Nat := 24
/-- R150: records of the pool. -/
def poolSize : Nat := 256
/-- R150: records of one chain. -/
def chainCapacity : Nat := 16
/-- R153: entries of the severity table. -/
def severityCapacity : Nat := 64
/-- R204: entries of one SET SEVERITY frame. -/
def severityFrame : Nat := 48
/-- R170: entries of the timetable. -/
def timetableCapacity : Nat := 64

/-- R35: a stuck line is sampled every 100 ms. -/
def recheckMs : Nat := 100
/-- R35, R15: second ticks of STUCK after which every pedestal becomes OFFLINE. -/
def stuckTicks : Nat := 2
/-- R39: a scan request older than 500 ms is promoted. -/
def promotionMs : Nat := 500
/-- R43, R15: second ticks of silence beyond which a restore write is made. -/
def silenceTicks : Nat := 2
/-- R52: least time between two round starts. -/
def pacingMs : Nat := 250
/-- R53: the longest duration that clears ROUND_SLOW. -/
def slowMs : Nat := 2000
/-- R53, R55, R15: second ticks after which the round in progress sets ROUND_SLOW. -/
def slowTicks : Nat := 2
/-- R68: time between polls. -/
def pollMs : Nat := 50
/-- R69: relay time limit. -/
def relayLimitMs : Nat := 800
/-- R190: debounce of the GATE pin. -/
def debounceMs : Nat := 50

/-- R88: second ticks after which the weather record is STALE. -/
def staleTicks : Nat := 1800
/-- R106: re-grant wait in second ticks. -/
def regrantTicks : Nat := 60
/-- R116, R118: stuck limit and no-load limit in second ticks. -/
def contactorTicks : Nat := 10
/-- R121: second ticks an ORPHANED grant stays in the list. -/
def orphanTicks : Nat := 3
/-- R174: second ticks a terminal entry stays in the timetable. -/
def removalTicks : Nat := 600
/-- R188: second ticks between two overdue expiries after the first. -/
def overdueStepTicks : Nat := 120

/-- R88: outdoor temperature planned with before any SET WEATHER. -/
def assumedOutdoor : Int := -100

/-- Section 10.7 gives the meter's last sum two bytes in a BUDGET_EXCEEDED notice and does not say what they hold for a
sum above 65535: a free value (DESIGN CHOICE, log 29). -/
opaque wideSum : Nat → BitVec 16

/-- R151 gives the delta of a LAMP record the values 0 to 4094, and R138 can give 4095: what the record then holds is a
free value in that range (DESIGN CHOICE, log 48). -/
opaque wideDelta : Nat → Fin 4095

end Sys2Proof.Config
end

