-- ==== Sys2Proof/Machine/State.lean ====
section
/-! DEFINITION. Everything the manual gives the part to keep, as plain data, block by block, and its values after reset.
Two-valued items are Bools named for their second value as the manual lists it (`plugged`: UNPLUGGED, PLUGGED). -/

namespace Sys2Proof.Machine

/-- Reasons a step stops: none. The manual gives every command an effect (INVENTORY.md, Faults). -/
inductive Fault where
deriving DecidableEq, Repr

/-- Reasons a command has no meaning. -/
inductive Refusal where
  /-- Raised by `exec` for a row without a meaning; safe: the run stops. No arm of `exec` raises it. -/
  | notModelled (mnemonic : String)
deriving DecidableEq, Repr

/-! ### Enumerations, in the order the manual lists their values (R199) -/

/-- R200. -/
inductive Mode where | config | run | safe
deriving DecidableEq, Repr

/-- R195. -/
inductive LinkRate where | baud19200 | baud57600 | baud115200 | baud230400
deriving DecidableEq, Repr

/-- R20. -/
inductive BusRate where | kbit31 | kbit62 | kbit125
deriving DecidableEq, Repr

/-- R11: the lamp shown by a bay exit signal. -/
inductive Aspect where | dark | red | amber | green
deriving DecidableEq, Repr

/-- R36. -/
inductive PedState where | unseen | online | suspect | offline
deriving DecidableEq, Repr

/-- R65. -/
inductive SlotState where | idle | sending | awaiting | fetching
deriving DecidableEq, Repr

/-- R65: the blocks that ask for relays. -/
inductive Requester where | clr | frs | lce
deriving DecidableEq, Repr

/-- R65: the bus class of a relay's transactions. -/
inductive BusClass where | two | three
deriving DecidableEq, Repr

/-- 4.5: identification state. -/
inductive IdentState where | none | waiting | running | done | failed
deriving DecidableEq, Repr

/-- R82. -/
inductive Level where | none | wait | normal | urgent
deriving DecidableEq, Repr

/-- R82. -/
inductive TargetSource where | entry | cls
deriving DecidableEq, Repr

/-- R82. -/
inductive CabinSource where | probe | outdoor
deriving DecidableEq, Repr

/-- R126. -/
inductive HeatState where | off | waiting | queued | heating | paused | keep | faulted
deriving DecidableEq, Repr

/-- R104. -/
inductive GrantState where | pendingClose | confirming | active | releasing | orphaned
deriving DecidableEq, Repr

/-- R104: outcome of the latest open write. -/
inductive OpenOutcome where | none | acknowledged | failed
deriving DecidableEq, Repr

/-- R133. -/
inductive Phase where | pausing | baseline | step | ending
deriving DecidableEq, Repr

/-- R133. -/
inductive Stage where | command | settling | sampling | clearing
deriving DecidableEq, Repr

/-- R138: outcome of one lamp step. -/
inductive StepOutcome where | overrange | opened | degraded | pass | overload
deriving DecidableEq, Repr

/-- R140: overall outcome of a check. -/
inductive CheckOutcome where | pass | fail | aborted | linkFail
deriving DecidableEq, Repr

/-- R141. -/
inductive AbortCause where | unplugged | offline | cancelled | mode
deriving DecidableEq, Repr

/-- R11, notice payload: lamp status. -/
inductive LampStatus where | none | queued | checking | pass | fail | aborted | linkFail
deriving DecidableEq, Repr

/-- R151. -/
inductive Origin where | coach | lamp | heater
deriving DecidableEq, Repr

/-- R151, R153. -/
inductive Severity where | blocking | restrict | advisory | ignore
deriving DecidableEq, Repr

/-- R124. -/
inductive HeaterKind where | noLoad | overload | stuck
deriving DecidableEq, Repr

/-- R152. -/
inductive ReadState where | idle | waiting | reading
deriving DecidableEq, Repr

/-- R170. -/
inductive EntryState where | scheduled | called | cleared | departed | unclearedExit | missed | cancelled
deriving DecidableEq, Repr

/-- R175. -/
inductive ClearState where | empty | standing | ready | releasing | cleared | held
deriving DecidableEq, Repr

/-- R182, in the order of R11. -/
inductive HoldReason where | host | stop | signal | path | gate | pedestal | fault | mode
deriving DecidableEq, Repr

/-- 10.5, in the order of the kinds' codes. -/
inductive NoticeKind where
  | overdue | unclearedExit | held | heatFault | pedestal | budgetExceeded | gate
  | arrived | identified | ready | cleared | departed | lampDone | faultsChanged | entry
deriving DecidableEq, Repr

/-- R32: the failure kinds of a transaction, and OFFLINE of R37. -/
inductive Failure where | absent | clash | stall | corrupt | refused | lineLow | offline
deriving DecidableEq, Repr

/-- R198. -/
inductive Result where
  | ok | clamped | badType | badLength | badValue | wrongMode | wrongState | notFound | full | already | offline
deriving DecidableEq, Repr

/-- A set of hold reasons: the bit field of R199, HOST at bit 0. -/
abbrev HoldSet := BitVec 8

/-- A set of notice kinds: one bit per kind at the kind's code (R208). -/
abbrev KindSet := BitVec 15

/-! ### Depot Clock -/

structure Clock where
  /-- R13: time of day in seconds. -/
  tod : Nat
  /-- R13: `true` is SET. -/
  isSet : Bool
  /-- R15: elapsed milliseconds since reset. -/
  now : Nat
  /-- R15: second ticks since reset. -/
  ticks : Nat
  /-- R14: minute ticks raised by the running clock and not yet taken (log 6), oldest first. -/
  minuteTicks : List Nat
deriving DecidableEq, Repr

/-! ### Control Link Unit -/

/-- A frame's TYPE, TAG and payload (10.7). -/
structure Frame where
  type : Byte
  tag : Byte
  payload : List Byte
deriving DecidableEq, Repr

/-- R196: the receiver; `got` holds the characters after SOF. -/
inductive Receiver where
  | hunting
  | frame (got : List Byte)
deriving DecidableEq, Repr

/-- R209: the transmitter and the frame it is sending. -/
inductive Tx where
  | idle
  | reply (f : Frame)
  | notice (f : Frame)
deriving DecidableEq, Repr

/-- R8: a defined class record. -/
structure ClassRec where
  name : List Byte
  power : Nat
  rate : Nat
  loss : Nat
  target : Nat
  settle : Nat
  block : Nat
deriving DecidableEq, Repr

structure Clu where
  mode : Mode
  linkRate : LinkRate
  receiver : Receiver
  rxQueue : List Frame
  replies : List Frame
  tx : Tx
  pending : PerBay KindSet
  depotPending : KindSet
  /-- R208: OVERDUE send mark. -/
  sendMark : PerBay Bool
  entryIds : List Nat
  mask : KindSet
  /-- R8: class c is at index c − 1. -/
  classes : Vector (Option ClassRec) 8
deriving DecidableEq, Repr

/-- R203: the depot parameters, in the order SET PARAMETERS carries them. -/
structure Params where
  margin : Nat
  callLead : Nat
  missLimit : Nat
  overdueWindow : Nat
  rotation : Nat
  stagger : Nat
  keepBand : Nat
  tolerance : Nat
  voltage : Nat
  refresh : Nat
  validity : Nat
  autoCheck : Bool
deriving DecidableEq, Repr

/-! ### Pedestal Bus Controller -/

/-- R41: the output image of a bay. -/
structure Image where
  closed : Bool
  supplyOn : Bool
  aspect : Aspect
deriving DecidableEq, Repr

/-- R41: the fields of an output-write entry marked by their owners. -/
structure Marks where
  contactor : Bool
  aspect : Bool
  supply : Bool
deriving DecidableEq, Repr

/-- R41: an entry of the output-write queue. -/
structure OutEntry where
  bay : Bay
  marks : Marks
deriving DecidableEq, Repr

/-- R27 to R31: an order with its data from the BD32. -/
inductive Order where
  | statusRead (high : Bool)
  | setOutputs (image : Image)
  | relaySend (message : List Byte)
  | relayFetch (count : Nat)
  | sampleBlock (count : Nat)
deriving DecidableEq, Repr

/-- R38: the units of work that hand the PBC transactions. -/
inductive Who where
  | broadcast
  | output (marks : Marks)
  | lamp (ctx : CtxId)
  | relay (bay : Bay)
  | scan
deriving DecidableEq, Repr

/-- R38: a waiting request of class 2 or 3. -/
structure Request where
  who : Who
  bay : Bay
  order : Order
  made : Nat
deriving DecidableEq, Repr

/-- R38, R39: the waiting scan request of class 4. -/
structure ScanReq where
  bay : Bay
  high : Bool
  made : Nat
deriving DecidableEq, Repr

/-- R22, R26: the transaction in progress. The broadcast has no bay. -/
structure Trans where
  who : Who
  bay : Option Bay
  order : Order
  /-- R33: the retry is on the bus. -/
  retry : Bool
  /-- R23: an attempt of this transaction had an acknowledged address. -/
  acked : Bool
  /-- R43: the pedestal's state before the transaction. -/
  before : PedState
  /-- R141: the requester has asked for the outcome to be discarded. -/
  discard : Bool
deriving DecidableEq, Repr

/-- R34, R35: the bus line state. -/
inductive Line where
  | normal
  /-- STUCK since an elapsed second tick (R15), with the elapsed milliseconds of the next sample. -/
  | stuck (since nextSample : Nat) (limitTaken : Bool)
deriving DecidableEq, Repr

/-- R36: the health group. -/
structure Health where
  state : PedState
  count : Nat
deriving DecidableEq, Repr

structure Pbc where
  bitRate : BusRate
  line : Line
  current : Option Trans
  class2 : List Request
  class3 : List Request
  scanReq : Option ScanReq
  broadcast : Bool
  outQ : List OutEntry
  images : PerBay Image
  health : PerBay Health
  /-- R23, R43: elapsed second ticks at the last acknowledged address. -/
  lastAck : PerBay (Option Nat)
  /-- R43: a broadcast has been sent since the last acknowledged address. -/
  broadcastSince : PerBay Bool
deriving DecidableEq, Repr

/-! ### Scan Sequencer -/

/-- R48. -/
structure ScanEntry where
  bay : Bay
  high : Bool
deriving DecidableEq, Repr

/-- R52, R50, R54: what the SCS is doing about its round. -/
inductive Round where
  /-- R63: the first round, starting at reset. -/
  | starting
  | running
  /-- R50: abandoned, its last request not yet ended. -/
  | abandoned
  /-- R52: waiting for the next round start. -/
  | pacing
  /-- R54: the effective list was empty. -/
  | stopped
deriving DecidableEq, Repr

/-- R11, R59: the report group, and whether each candidate is set (it is the value that differs). -/
structure Report where
  plugged : Bool
  occupied : Bool
  closed : Bool
  aspect : Aspect
  pressed : Bool
  supplyOn : Bool
  current : Nat
  high : Bool
  cabin : Option Int
  age : Option Nat
  plugCand : Bool
  presCand : Bool
deriving DecidableEq, Repr

structure Scs where
  setList : List ScanEntry
  roundList : List ScanEntry
  pos : Nat
  round : Round
  /-- R52: elapsed milliseconds at the last round start. -/
  roundStart : Nat
  /-- R53: elapsed second ticks at the last round start. -/
  roundTick : Nat
  slow : Bool
  lastDuration : Nat
  reports : PerBay Report
deriving DecidableEq, Repr

/-! ### Coach Link Relay -/

/-- R74. -/
inductive CoachMsg where
  | ident
  | allOff
  | light (group : Nat)
  | readFaults (page : Nat)
deriving DecidableEq, Repr

/-- R65: the set of waiting requesters. -/
structure Waiting where
  clr : Bool
  frs : Bool
  lce : Bool
deriving DecidableEq, Repr

/-- R65. -/
structure Slot where
  state : SlotState
  requester : Option Requester
  message : Option CoachMsg
  busClass : Option BusClass
  /-- Elapsed milliseconds at the send acknowledge. -/
  sendAck : Option Nat
  clearing : Bool
  abandoned : Bool
  waiting : Waiting
  /-- R73: the requester has cancelled the relay. -/
  cancelled : Bool
  /-- R68: elapsed milliseconds at which the next poll is requested. -/
  pollDue : Option Nat
  /-- R69: the poll on the bus is discarded, and the clearing fetch follows it. -/
  pollDiscard : Bool
  /-- R66, the model's own: how often the slot has become IDLE, so that the end of an event knows whether it did. -/
  ended : Nat
deriving DecidableEq, Repr

/-- The identity group and the identification state. -/
structure Identity where
  fleet : Option (List Byte)
  cls : Nat
  state : IdentState
deriving DecidableEq, Repr

structure Clr where
  slots : PerBay Slot
  idents : PerBay Identity
deriving DecidableEq, Repr

/-! ### Heat Planner -/

/-- R82: the plan group and the working values. -/
structure Plan where
  need : Nat
  slack : Int
  level : Level
  reached : Bool
  long : Bool
  energy : Nat
  target : Option Nat
  targetSource : Option TargetSource
  cabin : Option Int
  cabinSource : Option CabinSource
  ttd : Option Int
  derating : Option Nat
  rate : Option Nat
  minute : Option Nat
deriving DecidableEq, Repr

/-- R87, R88: `value` is none until a SET WEATHER is accepted; the age counts second ticks. -/
structure Weather where
  value : Option Int
  age : Option Nat
  stale : Bool
deriving DecidableEq, Repr

structure Hpl where
  plans : PerBay Plan
  weather : Weather
deriving DecidableEq, Repr

/-! ### Power Allocator -/

/-- R102. -/
structure BudgetStep where
  minute : Nat
  budget : Nat
deriving DecidableEq, Repr

/-- R104. -/
structure Grant where
  bay : Bay
  power : Nat
  levelAtAdmission : Level
  admissionTod : Nat
  /-- Elapsed second ticks at admission (R110). -/
  admissionTick : Nat
  state : GrantState
  changeTod : Nat
  issued : Bool
  /-- Elapsed second ticks at the close acknowledge. -/
  closeAck : Option Nat
  openOutcome : OpenOutcome
  /-- Elapsed second ticks at the open acknowledge (R116). -/
  openAck : Option Nat
  overload : Nat
  stuckRecorded : Bool
  /-- Elapsed second ticks at which it became ORPHANED (R121). -/
  orphanedAt : Option Nat
deriving DecidableEq, Repr

/-- The heat group and the PAL's other items of one bay. -/
structure PalBay where
  lastRelease : Option Nat
  faultBlock : Bool
  /-- R106: elapsed second ticks at which the re-grant wait started. -/
  regrant : Option Nat
  pause : Bool
  pmeas : Nat
deriving DecidableEq, Repr

structure Pal where
  schedule : List BudgetStep
  budget : Nat
  grants : List Grant
  closing : List Bay
  outstanding : Option Bay
  /-- R113: elapsed second ticks at the last close acknowledge. -/
  lastCloseAck : Option Nat
  urgentPtr : Bay
  normalPtr : Bay
  bays : PerBay PalBay
  meterSum : Nat
  excess : Nat
  /-- R106 step 5: a grant has left the list and its pass has still to run (log 15). -/
  passDue : Bool
deriving DecidableEq, Repr

/-! ### Lamp Check Engine -/

/-- R129. -/
structure LampStep where
  group : Nat
  critical : Bool
  min : Nat
  max : Nat
deriving DecidableEq, Repr

/-- R133, R144: a baseline once taken. -/
inductive Baseline where
  | value (n : Nat)
  | saturated
deriving DecidableEq, Repr

/-- R144: one step entry. -/
structure StepEntry where
  group : Nat
  critical : Bool
  outcome : StepOutcome
  delta : Nat
deriving DecidableEq, Repr

/-- R133: the request a context has outstanding. -/
inductive Outstanding where | none | relay | sample
deriving DecidableEq, Repr

/-- R133: a busy context. -/
structure Ctx where
  bay : Bay
  phase : Phase
  stage : Stage
  plan : List LampStep
  cls : Nat
  settle : Nat
  block : Nat
  /-- The step in hand, 1 to 24; 0 outside STEP. -/
  stepIndex : Nat
  retryUsed : Bool
  baseline : Option Baseline
  entries : List StepEntry
  outcome : Option CheckOutcome
  cause : Option AbortCause
  request : Outstanding
  /-- R139: refused RELAY_BUSY; waits for the slot free event. -/
  awaitsSlot : Bool
  /-- R136: elapsed milliseconds at which the settle time has passed. -/
  settleDue : Option Nat
deriving DecidableEq, Repr

/-- R144. -/
structure LampResult where
  completedTod : Nat
  /-- Elapsed second ticks at which it was written: the age is counted from it. -/
  writtenTick : Nat
  outcome : CheckOutcome
  cause : Option AbortCause
  cls : Nat
  baseline : Option Baseline
  steps : List StepEntry
deriving DecidableEq, Repr

structure Lce where
  /-- R129: the plan of class c is at index c − 1. -/
  plans : Vector (List LampStep) 8
  queue : List Bay
  ctxs : Vector (Option Ctx) 4
  results : PerBay (Option LampResult)
  waivers : PerBay Bool
deriving DecidableEq, Repr

/-! ### Fault Record Store -/

/-- R151. -/
inductive Detail where
  | coach
  | lamp (group delta : Nat)
  | heater (pmeas : Nat) (kind : HeaterKind)
deriving DecidableEq, Repr

/-- R151. -/
structure FaultRec where
  code : Nat
  origin : Origin
  severity : Severity
  active : Bool
  count : Nat
  first : Nat
  last : Nat
  waived : Bool
  detail : Detail
deriving DecidableEq, Repr

/-- R152: a subset of READ, LAMP, HEATER. -/
structure Causes where
  read : Bool
  lamp : Bool
  heater : Bool
deriving DecidableEq, Repr

/-- The fault group of one bay and the items of R152. -/
structure FaultBay where
  chain : List FaultRec
  dropped : Nat
  causes : Causes
  stale : Bool
  lastRead : Option Nat
  complete : Bool
  readState : ReadState
  page : Nat
  reported : List Nat
  /-- Elapsed second ticks at the end of the last read. -/
  endOfRead : Option Nat
deriving DecidableEq, Repr

/-- R153. -/
structure SevEntry where
  low : Nat
  high : Nat
  severity : Severity
deriving DecidableEq, Repr

structure Frs where
  free : Nat
  table : List SevEntry
  staging : List SevEntry
  stagingTotal : Option Nat
  bays : PerBay FaultBay
deriving DecidableEq, Repr

/-! ### Departure Controller -/

/-- R170. -/
structure Entry where
  id : Nat
  minute : Nat
  bay : Bay
  label : List Byte
  target : Option Nat
  priority : Bool
  restrictOk : Bool
  state : EntryState
  due : Bool
  /-- Elapsed second ticks at which it became terminal. -/
  terminalSince : Option Nat
deriving DecidableEq, Repr

/-- The clearance group of one bay and the DPC's other items of it. -/
structure DpcBay where
  inService : Bool
  state : ClearState
  ret : Option ClearState
  holds : HoldSet
  cur : Option Nat
  /-- R188: elapsed second ticks at which the timer next expires. -/
  overdue : Option Nat
  overdueCount : Nat
  heatWaiver : Bool
  /-- R185: none when disarmed, else the mismatch count. -/
  check : Option Nat
  rewrite : Bool
  /-- R178, R184: the id of the CALLED entry it had on entering RELEASING, or was held with. None once that entry has been
  removed from the timetable, because its id is then free (R174). -/
  relEntry : Option Nat
  /-- R178: the heat and lamp conditions are held true, from RELEASING until the bay has returned to STANDING. -/
  released : Bool
deriving DecidableEq, Repr

structure Dpc where
  /-- R170: in stored order. -/
  entries : List Entry
  /-- R4: lane n is at index n − 1; no bays means no lane. -/
  lanes : Vector (List Bay) 8
  bays : PerBay DpcBay
  latchReleased : Bool
  readingReleased : Bool
  pinHigh : Bool
  /-- R190: elapsed milliseconds at which the pin took the level that differs from the reading. -/
  debounce : Option Nat
deriving DecidableEq, Repr

/-! ### The whole part -/

structure State where
  clk : Clock
  clu : Clu
  params : Params
  pbc : Pbc
  scs : Scs
  clr : Clr
  hpl : Hpl
  pal : Pal
  lce : Lce
  frs : Frs
  dpc : Dpc
  /-- The commands that wait, first in, first out (log 1). -/
  pending : List Instr
deriving DecidableEq, Repr

/-! ### Values after reset -/

/-- R13. -/
def Clock.atReset : Clock := ⟨0, false, 0, 0, []⟩

/-- R211, R8. -/
def Clu.atReset : Clu where
  mode := .config
  linkRate := .baud19200
  receiver := .hunting
  rxQueue := []
  replies := []
  tx := .idle
  pending := Vector.replicate 32 0
  depotPending := 0
  sendMark := Vector.replicate 32 false
  entryIds := []
  mask := BitVec.allOnes 15
  classes := Vector.replicate 8 none

/-- R203. -/
def Params.atReset : Params where
  margin := 20
  callLead := 10
  missLimit := 15
  overdueWindow := 3
  rotation := 20
  stagger := 3
  keepBand := 10
  tolerance := 10
  voltage := 400
  refresh := 30
  validity := 12
  autoCheck := true

/-- R47. -/
def Pbc.atReset : Pbc where
  bitRate := .kbit31
  line := .normal
  current := none
  class2 := []
  class3 := []
  scanReq := none
  broadcast := true
  outQ := []
  images := Vector.replicate 32 ⟨false, false, .dark⟩
  health := Vector.replicate 32 ⟨.unseen, 0⟩
  lastAck := Vector.replicate 32 none
  broadcastSince := Vector.replicate 32 false

/-- R11. -/
def Report.atReset : Report where
  plugged := false
  occupied := false
  closed := false
  aspect := .dark
  pressed := false
  supplyOn := false
  current := 0
  high := true
  cabin := none
  age := none
  plugCand := false
  presCand := false

/-- R63. -/
def Scs.atReset : Scs where
  setList := []
  roundList := []
  pos := 0
  round := .starting
  roundStart := 0
  roundTick := 0
  slow := false
  lastDuration := 0
  reports := Vector.replicate 32 Report.atReset

/-- R65. The manual gives the bus class a dash as its value after reset: none (DESIGN CHOICE, log 40). -/
def Slot.atReset : Slot where
  state := .idle
  requester := none
  message := none
  busClass := none
  sendAck := none
  clearing := false
  abandoned := false
  waiting := ⟨false, false, false⟩
  cancelled := false
  pollDue := none
  pollDiscard := false
  ended := 0

/-- R81. -/
def Clr.atReset : Clr where
  slots := Vector.replicate 32 Slot.atReset
  idents := Vector.replicate 32 ⟨none, 0, .none⟩

/-- R82. -/
def Plan.atReset : Plan where
  need := 0
  slack := 0
  level := .none
  reached := false
  long := false
  energy := 0
  target := none
  targetSource := none
  cabin := none
  cabinSource := none
  ttd := none
  derating := none
  rate := none
  minute := none

/-- R101. -/
def Hpl.atReset : Hpl where
  plans := Vector.replicate 32 Plan.atReset
  weather := ⟨none, none, false⟩

/-- R128. -/
def Pal.atReset : Pal where
  schedule := []
  budget := 0
  grants := []
  closing := []
  outstanding := none
  lastCloseAck := none
  urgentPtr := 0
  normalPtr := 0
  bays := Vector.replicate 32 ⟨none, false, none, false, 0⟩
  meterSum := 0
  excess := 0
  passDue := false

/-- R149. -/
def Lce.atReset : Lce where
  plans := Vector.replicate 8 []
  queue := []
  ctxs := Vector.replicate 4 none
  results := Vector.replicate 32 none
  waivers := Vector.replicate 32 false

/-- R169. Its table names neither the read page nor the reported set: page 0 and no code (DESIGN CHOICE, log 41). -/
def FaultBay.atReset : FaultBay where
  chain := []
  dropped := 0
  causes := ⟨false, false, false⟩
  stale := false
  lastRead := none
  complete := false
  readState := .idle
  page := 0
  reported := []
  endOfRead := none

/-- R169. -/
def Frs.atReset : Frs where
  free := Config.poolSize
  table := []
  staging := []
  stagingTotal := none
  bays := Vector.replicate 32 FaultBay.atReset

/-- R194, R2. -/
def DpcBay.atReset : DpcBay where
  inService := true
  state := .empty
  ret := none
  holds := 0
  cur := none
  overdue := none
  overdueCount := 0
  heatWaiver := false
  check := none
  rewrite := false
  relEntry := none
  released := false

/-- R194. -/
def Dpc.atReset : Dpc where
  entries := []
  lanes := Vector.replicate 8 []
  bays := Vector.replicate 32 DpcBay.atReset
  latchReleased := false
  readingReleased := false
  pinHigh := false
  debounce := none

/-- The machine right after reset: the tables of R47, R63, R65, R82, R101, R128, R149, R169, R194 and R211, with the
straps low (DESIGN CHOICE, log 10). The first scan request and the first choice of the arbiter follow in the next
event (`wake`, log 10). -/
def State.reset : State where
  clk := Clock.atReset
  clu := Clu.atReset
  params := Params.atReset
  pbc := Pbc.atReset
  scs := Scs.atReset
  clr := Clr.atReset
  hpl := Hpl.atReset
  pal := Pal.atReset
  lce := Lce.atReset
  frs := Frs.atReset
  dpc := Dpc.atReset
  pending := []

end Sys2Proof.Machine
end

