-- ==== Sys2Proof/Machine/Ops.lean ====
section
/-! DEFINITION. The shared operations: per-bay updates, bit sets, elapsed time, and raising notices. -/

namespace Sys2Proof.Machine

/-- R1: bays 1 to 32 in ascending order. -/
def allBays : List Bay := List.finRange 32

/-- The four contexts in ascending order. -/
def allCtxs : List CtxId := List.finRange 4

/-- The bay number of R1. -/
def bayNum (b : Bay) : Nat := b.val + 1

/-- The bay a number names, R1. -/
def bayOf (n : Nat) : Option Bay := if h : 1 ≤ n ∧ n ≤ 32 then some ⟨n - 1, by omega⟩ else none

/-- Rewrites one bay's item of a per-bay table. -/
def upd {α : Type} (v : PerBay α) (b : Bay) (f : α → α) : PerBay α := v.set b (f v[b])

/-- Rewrites every bay's item of a per-bay table. -/
def updAll {α : Type} (v : PerBay α) (f : Bay → α → α) : PerBay α := Vector.ofFn fun b : Bay => f b v[b]

/-- Does `f` for each bay in ascending order: the manual gives the bays of one event no order (DESIGN CHOICE, log 38). -/
def forBays (f : Bay → State → State) (s : State) : State := allBays.foldl (fun s b => f b s) s

/-! ### Time -/

/-- Section 1.5: the minute of day. -/
def State.minute (s : State) : Nat := s.clk.tod / 60

/-- R15, log 4: a limit of milliseconds that its command says has run out carries the elapsed count to `due`. -/
def elapseTo (due : Nat) (s : State) : State := { s with clk := { s.clk with now := max s.clk.now due } }

/-- Log 3: the idle step is one millisecond of elapsed time. -/
def idleMs (s : State) : State := { s with clk := { s.clk with now := s.clk.now + 1 } }

/-! ### Bit sets (R199: the first item listed is bit 0) -/

/-- R182, in the order of R11. -/
def HoldReason.code : HoldReason → Nat
  | .host => 0 | .stop => 1 | .signal => 2 | .path => 3 | .gate => 4 | .pedestal => 5 | .fault => 6 | .mode => 7

def hasHold (h : HoldSet) (r : HoldReason) : Bool := h.getLsbD r.code
def addHold (h : HoldSet) (r : HoldReason) : HoldSet := h ||| BitVec.twoPow 8 r.code
def dropHold (h : HoldSet) (r : HoldReason) : HoldSet := h &&& ~~~ BitVec.twoPow 8 r.code

/-- Section 10.5: the codes of the notice kinds. -/
def NoticeKind.code : NoticeKind → Nat
  | .overdue => 0 | .unclearedExit => 1 | .held => 2 | .heatFault => 3 | .pedestal => 4 | .budgetExceeded => 5
  | .gate => 6 | .arrived => 7 | .identified => 8 | .ready => 9 | .cleared => 10 | .departed => 11
  | .lampDone => 12 | .faultsChanged => 13 | .entry => 14

def hasKind (m : KindSet) (k : NoticeKind) : Bool := m.getLsbD k.code
def addKind (m : KindSet) (k : NoticeKind) : KindSet := m ||| BitVec.twoPow 15 k.code
def dropKind (m : KindSet) (k : NoticeKind) : KindSet := m &&& ~~~ BitVec.twoPow 15 k.code

/-! ### Raising notices (R208) -/

/-- R208: raises a bay kind; OVERDUE also sets the bay's send mark. -/
def raiseBay (k : NoticeKind) (b : Bay) (s : State) : State :=
  if hasKind s.clu.mask k then
    { s with clu := { s.clu with
        pending := upd s.clu.pending b (addKind · k)
        sendMark := if k = .overdue then upd s.clu.sendMark b (fun _ => true) else s.clu.sendMark } }
  else s

/-- R208: raises BUDGET_EXCEEDED or GATE. -/
def raiseDepot (k : NoticeKind) (s : State) : State :=
  if hasKind s.clu.mask k then
    { s with clu := { s.clu with depotPending := addKind s.clu.depotPending k } }
  else s

/-- R208: raises ENTRY for an entry's id, which joins the ENTRY id set once. -/
def raiseEntry (id : Nat) (s : State) : State :=
  if hasKind s.clu.mask .entry then
    { s with clu := { s.clu with
        depotPending := addKind s.clu.depotPending .entry
        entryIds := if s.clu.entryIds.contains id then s.clu.entryIds else s.clu.entryIds ++ [id] } }
  else s

/-- R174: the id of a removed entry leaves the ENTRY id set. -/
def forgetEntry (id : Nat) (s : State) : State :=
  { s with clu := { s.clu with entryIds := s.clu.entryIds.filter (· != id) } }

/-! ### Per-bay updates, block by block -/

def updReport (b : Bay) (f : Report → Report) (s : State) : State :=
  { s with scs := { s.scs with reports := upd s.scs.reports b f } }

def updSlot (b : Bay) (f : Slot → Slot) (s : State) : State :=
  { s with clr := { s.clr with slots := upd s.clr.slots b f } }

def updIdent (b : Bay) (f : Identity → Identity) (s : State) : State :=
  { s with clr := { s.clr with idents := upd s.clr.idents b f } }

def updPlan (b : Bay) (p : Plan) (s : State) : State :=
  { s with hpl := { s.hpl with plans := upd s.hpl.plans b (fun _ => p) } }

def updPalBay (b : Bay) (f : PalBay → PalBay) (s : State) : State :=
  { s with pal := { s.pal with bays := upd s.pal.bays b f } }

def updFault (b : Bay) (f : FaultBay → FaultBay) (s : State) : State :=
  { s with frs := { s.frs with bays := upd s.frs.bays b f } }

def updDpc (b : Bay) (f : DpcBay → DpcBay) (s : State) : State :=
  { s with dpc := { s.dpc with bays := upd s.dpc.bays b f } }

def updCtx (c : CtxId) (x : Option Ctx) (s : State) : State :=
  { s with lce := { s.lce with ctxs := s.lce.ctxs.set c x } }

end Sys2Proof.Machine
end

