-- ==== Sys2Proof/Machine/Flags.lean ====
section
/-! DEFINITION. What follows from State and is not kept in it: effective class, path, time to departure, loads, the
conditions that clearance needs, heat state and lamp status (R12). -/

namespace Sys2Proof.Machine

/-! ### Classes (R8, R9, R129) -/

/-- R8: the record of a class number, when that class is defined. -/
def classRec (n : Nat) (s : State) : Option ClassRec :=
  match n with
  | 0 => none
  | k + 1 => s.clu.classes[k]?.join

/-- R9: the record of a bay's effective class; none for class 0. -/
def effRec (b : Bay) (s : State) : Option ClassRec := classRec s.clr.idents[b].cls s

/-- R9: a bay's effective class. -/
def effClass (b : Bay) (s : State) : Nat := if (effRec b s).isSome then s.clr.idents[b].cls else 0

/-- R129: the lamp plan of a class number. -/
def lampPlan (n : Nat) (s : State) : List LampStep :=
  match n with
  | 0 => []
  | k + 1 => s.lce.plans[k]?.getD []

/-! ### Lanes and path (R4, R6) -/

/-- R4: lane number and position of a bay. -/
def laneOf (b : Bay) (s : State) : Option (Nat × Nat) :=
  (List.finRange 8).findSome? fun i => (s.dpc.lanes[i].idxOf? b).map fun p => (i.val + 1, p + 1)

/-- R4: the bays of a bay's lane, front to back; empty when it is in no lane. -/
def laneBays (b : Bay) (s : State) : List Bay :=
  match laneOf b s with
  | none => []
  | some (n, _) => s.dpc.lanes[n - 1]?.getD []

/-- R6: the bays ahead of a bay in its lane. -/
def ahead (b : Bay) (s : State) : List Bay := (laneBays b s).takeWhile (· != b)

/-- R6: the bays behind a bay in its lane. -/
def behind (b : Bay) (s : State) : List Bay := ((laneBays b s).dropWhile (· != b)).drop 1

/-- R6: every bay ahead is EMPTY or OUT_OF_SERVICE; a bay in no lane has no path. -/
def pathClear (b : Bay) (s : State) : Bool :=
  (laneOf b s).isSome &&
    (ahead b s).all fun a => s.dpc.bays[a].state == .empty || !s.dpc.bays[a].inService

/-! ### Timetable (R18, R89, R90, R173) -/

/-- R170: the entry that carries an id. -/
def entryById (id : Nat) (s : State) : Option Entry := s.dpc.entries.find? (·.id == id)

/-- R173: a bay's current entry. -/
def curEntry (b : Bay) (s : State) : Option Entry := s.dpc.bays[b].cur.bind (entryById · s)

/-- R170: SCHEDULED, CALLED and CLEARED are the live states. -/
def EntryState.live : EntryState → Bool
  | .scheduled | .called | .cleared => true
  | .departed | .unclearedExit | .missed | .cancelled => false

/-- R18: the minutes since D of a DUE entry. -/
def minutesSince (e : Entry) (s : State) : Int :=
  let v := ((s.minute : Int) - e.minute) % 1440
  if v ≤ 120 ∨ e.state = .cleared then v else 0

/-- R89, R90, R173: time to departure, which is also the relative departure. -/
def timeToGo (e : Entry) (s : State) : Int :=
  if e.due then -minutesSince e s else ((e.minute : Int) - s.minute) % 1440

/-! ### Heat (R85, R88, R99) -/

/-- R85: the target of a bay and where it came from. -/
def targetOf (b : Bay) (s : State) : Option (Nat × TargetSource) :=
  match curEntry b s with
  | none => none
  | some e =>
    match e.target with
    | some t => some (t, .entry)
    | none => (effRec b s).map fun r => (r.target, .cls)

/-- R88: the outdoor temperature in use. -/
def outdoor (s : State) : Int := s.hpl.weather.value.getD Config.assumedOutdoor

/-- R99: cabin ready. -/
def cabinReady (b : Bay) (s : State) : Bool :=
  s.dpc.bays[b].heatWaiver ||
    match targetOf b s, s.scs.reports[b].cabin with
    | some (t, _), some c => decide (c ≥ (t : Int) - s.params.tolerance)
    | _, _ => false

/-! ### Grants (R104, R107, R126) -/

/-- R104: the states that may draw current. -/
def GrantState.live : GrantState → Bool
  | .pendingClose | .confirming | .active => true
  | .releasing | .orphaned => false

/-- R104: a bay's grant. -/
def grantOf (b : Bay) (s : State) : Option Grant := s.pal.grants.find? (·.bay == b)

def totalPower (gs : List Grant) : Nat := (gs.map (·.power)).sum

/-- R104: committed load. -/
def committedLoad (s : State) : Nat := totalPower s.pal.grants

/-- R104: live load. -/
def liveLoad (s : State) : Nat := totalPower (s.pal.grants.filter (·.state.live))

/-- R111: the heater power of all RELEASING grants. -/
def releasingPower (s : State) : Nat := totalPower (s.pal.grants.filter (·.state == .releasing))

def level (b : Bay) (s : State) : Level := s.hpl.plans[b].level

/-- R107: the pedestal is ONLINE or SUSPECT. -/
def answering (b : Bay) (s : State) : Bool :=
  s.pbc.health[b].state == .online || s.pbc.health[b].state == .suspect

def isOffline (b : Bay) (s : State) : Bool := s.pbc.health[b].state == .offline

/-- R107; R9: a bay of effective class 0 is none, whatever level its last plan left. -/
def candidate (b : Bay) (s : State) : Bool :=
  (effRec b s).isSome && (level b s == .normal || level b s == .urgent) && (grantOf b s).isNone && s.scs.reports[b].plugged &&
    answering b s && !s.pal.bays[b].pause && !s.pal.bays[b].faultBlock && s.pal.bays[b].regrant.isNone &&
    s.dpc.bays[b].inService && s.clu.mode == .run

/-- A bay holds a grant in PENDING_CLOSE, CONFIRMING or ACTIVE. -/
def hasLiveGrant (b : Bay) (s : State) : Bool := s.pal.grants.any fun g => g.bay == b && g.state.live

/-- R126. -/
def heatState (b : Bay) (s : State) : HeatState :=
  if !s.dpc.bays[b].inService then .off
  else if hasLiveGrant b s then .heating
  else if s.pal.bays[b].faultBlock then .faulted
  else if s.pal.bays[b].pause then .paused
  else if s.hpl.plans[b].reached then .keep
  else if candidate b s then .queued
  else if level b s = .none then .off
  else .waiting

/-! ### Lamps (R11, R144, R146) -/

/-- The context that runs a bay's check. -/
def ctxOf (b : Bay) (s : State) : Option CtxId :=
  allCtxs.find? fun c => match s.lce.ctxs[c] with | some x => x.bay == b | none => false

def CheckOutcome.status : CheckOutcome → LampStatus
  | .pass => .pass | .fail => .fail | .aborted => .aborted | .linkFail => .linkFail

/-- R131, R134, R140, R144: the lamp status. -/
def lampStatus (b : Bay) (s : State) : LampStatus :=
  let last := match s.lce.results[b] with | some r => r.outcome.status | none => .none
  if s.lce.queue.contains b then .queued
  else
    match (ctxOf b s).bind (s.lce.ctxs[·]) with
    | some x => if x.phase = .ending then last else .checking
    | none => last

/-- R144: the age of a result in whole minutes. -/
def resultAge (r : LampResult) (s : State) : Nat := min 65535 ((s.clk.ticks - r.writtenTick) / 60)

/-- R146: the lamp condition. -/
def lampCondition (b : Bay) (s : State) : Bool :=
  s.lce.waivers[b] ||
    match s.lce.results[b], curEntry b s with
    | some r, some e =>
      r.outcome == .pass && decide (max 0 ((resultAge r s : Int) + timeToGo e s) ≤ 60 * s.params.validity)
    | _, _ => false

/-! ### Faults (R152, R167) -/

/-- R152: FAULTS_INCOMPLETE. -/
def Causes.any (c : Causes) : Bool := c.read || c.lamp || c.heater

/-- R167: the bay's current entry carries RESTRICT_OK. -/
def restrictOk (b : Bay) (s : State) : Bool := match curEntry b s with | some e => e.restrictOk | none => false

/-- R167: the fault condition. -/
def faultCondition (b : Bay) (s : State) : Bool :=
  let f := s.frs.bays[b]
  !(f.chain.any fun r => r.severity == .blocking && !r.waived) &&
    (!(f.chain.any fun r => r.severity == .restrict && !r.waived) || restrictOk b s) &&
    !f.causes.any && !f.stale && f.complete

/-! ### Clearance (R177, R190, R191) -/

/-- R177: the READY conditions. The heat and lamp conditions are held true for a bay that has been in RELEASING (R178). -/
def readyConditions (b : Bay) (s : State) : Bool :=
  (match curEntry b s with | some e => e.state == .called | none => false) &&
    (s.dpc.bays[b].released || cabinReady b s && lampCondition b s) && faultCondition b s && answering b s &&
    s.clu.mode == .run && s.dpc.bays[b].inService && (laneOf b s).isSome && !s.scs.reports[b].pressed

/-- Section 9.2: the aspect of a clearance state. -/
def ClearState.aspect : ClearState → Aspect
  | .empty => .dark | .standing => .red | .ready => .amber | .releasing => .red | .cleared => .green | .held => .red

/-- R83: the states in which a bay is planned. -/
def ClearState.planned : ClearState → Bool
  | .standing | .ready => true
  | .empty | .releasing | .cleared | .held => false

/-- R191: the wanted supply. -/
def wantedSupply (b : Bay) (s : State) : Bool := s.clu.mode == .run && s.scs.reports[b].plugged

/-- R190: external hold. -/
def externalHold (s : State) : Bool := !s.dpc.readingReleased && s.dpc.latchReleased

/-- R188: CLEARED, or HELD with return state CLEARED. -/
def DpcBay.onTheWay (d : DpcBay) : Bool := d.state == .cleared || (d.state == .held && d.ret == some .cleared)

end Sys2Proof.Machine
end

