-- ==== Sys2Proof/Machine/Bus.lean ====
section
/-! DEFINITION. The Pedestal Bus Controller's own operations: the output-write queue, the class queues, the arbiter, and
how an attempt is judged. What an ended transaction brings about is in Outcomes.lean. -/

namespace Sys2Proof.Machine

/-! ### The output-write queue (R41, R43) -/

def Marks.none : Marks := ⟨false, false, false⟩

def Marks.join (m n : Marks) : Marks := ⟨m.contactor || n.contactor, m.aspect || n.aspect, m.supply || n.supply⟩

/-- R41: an entry for `b` is updated in place, or a new one joins the tail. -/
def queueWrite (b : Bay) (m : Marks) (q : List OutEntry) : List OutEntry :=
  if q.any (·.bay == b) then q.map fun e => if e.bay == b then { e with marks := e.marks.join m } else e
  else q ++ [⟨b, m⟩]

/-- R41: an owner's output write. For an OFFLINE pedestal the image alone takes the values; the owners ignore the
failure with OFFLINE that answers it (R114, R121, R191). -/
def outputWrite (b : Bay) (f : Image → Image) (m : Marks) (s : State) : State :=
  { s with pbc := { s.pbc with
      images := upd s.pbc.images b f
      outQ := if isOffline b s then s.pbc.outQ else queueWrite b m s.pbc.outQ } }

/-- R41: the PAL's write of the contactor. -/
def contactorWrite (b : Bay) (closed : Bool) : State → State :=
  outputWrite b (fun i => { i with closed := closed }) ⟨true, false, false⟩

/-- R191: the DPC's write of the aspect. -/
def aspectWrite (b : Bay) (a : Aspect) : State → State :=
  outputWrite b (fun i => { i with aspect := a }) ⟨false, true, false⟩

/-- R191: the DPC's write of the service supply. -/
def supplyWrite (b : Bay) (on : Bool) : State → State :=
  outputWrite b (fun i => { i with supplyOn := on }) ⟨false, false, true⟩

/-- R43: a restore write joins the tail unless an entry for `b` waits already. A pedestal that is OFFLINE at the end
of the transaction gets none: its entry would be ended at once by R37 (DEDUCED, log 21). -/
def restoreWrite (b : Bay) (s : State) : State :=
  if isOffline b s || s.pbc.outQ.any (·.bay == b) then s
  else { s with pbc := { s.pbc with outQ := s.pbc.outQ ++ [⟨b, Marks.none⟩] } }

/-! ### The class queues (R38) -/

/-- R38: a request joins the tail of its class queue. -/
def enqueue (c : BusClass) (who : Who) (b : Bay) (o : Order) (s : State) : State :=
  let r : Request := ⟨who, b, o, s.clk.now⟩
  match c with
  | .two => { s with pbc := { s.pbc with class2 := s.pbc.class2 ++ [r] } }
  | .three => { s with pbc := { s.pbc with class3 := s.pbc.class3 ++ [r] } }

/-- R38: a requester withdraws its waiting request. -/
def withdraw (who : Who) (s : State) : State :=
  { s with pbc := { s.pbc with
      class2 := s.pbc.class2.filter (·.who != who)
      class3 := s.pbc.class3.filter (·.who != who) } }

/-- R38: the requester has a waiting request. -/
def isWaiting (who : Who) (s : State) : Bool :=
  s.pbc.class2.any (·.who == who) || s.pbc.class3.any (·.who == who)

/-- The requester's transaction is on the bus. -/
def isOnBus (who : Who) (s : State) : Bool :=
  match s.pbc.current with | some t => t.who == who | none => false

/-- R141: the transaction on the bus is marked so that its outcome is discarded. -/
def discardCurrent (s : State) : State :=
  { s with pbc := { s.pbc with current := s.pbc.current.map fun t => { t with discard := true } } }

/-- R37: the queued requests of an OFFLINE bay end, and its output-write entry is removed. -/
def dropQueued (b : Bay) (s : State) : State :=
  { s with pbc := { s.pbc with
      class2 := s.pbc.class2.filter (·.bay != b)
      class3 := s.pbc.class3.filter (·.bay != b)
      outQ := s.pbc.outQ.filter (·.bay != b) } }

/-- R31: a broadcast request, merged with one that waits. -/
def requestBroadcast (s : State) : State := { s with pbc := { s.pbc with broadcast := true } }

/-! ### The arbiter (R35, R39, R40) -/

/-- R31. -/
def allSafe : Image := ⟨false, false, .red⟩

def transFor (who : Who) (b : Bay) (o : Order) (s : State) : Trans :=
  ⟨who, some b, o, false, false, s.pbc.health[b].state, false⟩

/-- R39: a scan request whose age exceeds 500 ms. -/
def promoted (r : ScanReq) (s : State) : Bool := decide (s.clk.now - r.made > Config.promotionMs)

def grantScan (r : ScanReq) (s : State) : State :=
  { s with pbc := { s.pbc with
      scanReq := none, current := some (transFor .scan r.bay (.statusRead r.high) s) } }

/-- R40 items 3 to 6: class 1, class 2, class 3, scan. -/
def grantByClass (s : State) : State :=
  match s.pbc.outQ with
  | e :: q =>
    { s with pbc := { s.pbc with
        outQ := q, current := some (transFor (.output e.marks) e.bay (.setOutputs s.pbc.images[e.bay]) s) } }
  | [] =>
    match s.pbc.class2 with
    | r :: q => { s with pbc := { s.pbc with class2 := q, current := some (transFor r.who r.bay r.order s) } }
    | [] =>
      match s.pbc.class3 with
      | r :: q => { s with pbc := { s.pbc with class3 := q, current := some (transFor r.who r.bay r.order s) } }
      | [] => match s.pbc.scanReq with | some r => grantScan r s | none => s

/-- R40: the arbiter's choice, when the bus is idle. It is made once, after everything the event brings about, so that
requests that reach an idle bus in one event are taken in the order of R40 (DESIGN CHOICE, log 9). -/
def arbitrate (s : State) : State :=
  if s.pbc.current.isSome then s
  else if s.pbc.broadcast then
    { s with pbc := { s.pbc with
        broadcast := false
        current := some ⟨.broadcast, none, .setOutputs allSafe, false, false, .unseen, false⟩ } }
  else
    match s.pbc.line with
    | .stuck _ _ _ => s
    | .normal =>
      match s.pbc.scanReq with
      | some r => if promoted r s then grantScan r s else grantByClass s
      | none => grantByClass s

/-! ### How an attempt ends (R23 to R27, R30, R32) -/

/-- Outcome of a transaction or of one attempt: the returned bytes, or a failure kind. -/
inductive BusResult where
  | success (bytes : List Byte)
  | failure (kind : Failure)
deriving DecidableEq, Repr

/-- The first `n` bytes the bus carries back; a byte the pedestal does not drive reads 0xFF (R29, log 26). -/
def fitBytes (n : Nat) (bs : List Byte) : List Byte := (bs ++ List.replicate n 0xFF#8).take n

/-- R27, R30: the bytes sum to 0 modulo 256. -/
def sumsToZero (bs : List Byte) : Bool := bs.foldl (· + ·) 0#8 == 0#8

/-- R23 to R27, R30, R32: the kind of an attempt's end. -/
def attemptResult (o : Order) : Attempt → BusResult
  | .idleLow => .failure .lineLow
  | .clash _ => .failure .clash
  | .nakAddress => .failure .absent
  | .nakOrder => .failure .refused
  | .nakData => .failure .refused
  | .waitTooLong => .failure .stall
  | .done bytes =>
    match o with
    | .statusRead _ =>
      if sumsToZero (fitBytes 8 bytes) then .success (fitBytes 8 bytes) else .failure .corrupt
    | .sampleBlock n =>
      if sumsToZero (fitBytes (2 * n + 1) bytes) then .success (fitBytes (2 * n + 1) bytes) else .failure .corrupt
    | .relayFetch r => .success (fitBytes r bytes)
    | .setOutputs _ => .success []
    | .relaySend _ => .success []

/-- R23: the attempt had an acknowledged address. -/
def attemptAcked : Attempt → Bool
  | .idleLow => false
  | .clash a => a
  | .nakAddress => false
  | .nakOrder | .nakData | .waitTooLong | .done _ => true

/-- R32: the kinds that count against health and are retried. -/
def Failure.counted : Failure → Bool
  | .absent | .clash | .stall | .corrupt => true
  | .refused | .lineLow | .offline => false

end Sys2Proof.Machine
end

