-- ==== Sys2Proof/Machine/Power.lean ====
section
/-! DEFINITION. The Power Allocator: budget, grants, the allocation pass, the closing queue and the outcomes of contactor
writes (chapter 6). Heater fault records go to the FRS in Faults.lean. -/

namespace Sys2Proof.Machine

/-! ### Budget (R102, R103) -/

/-- R102: steps in ascending order of minute. -/
def insertStep (x : BudgetStep) : List BudgetStep → List BudgetStep
  | [] => [x]
  | y :: ys => if x.minute < y.minute then x :: y :: ys else y :: insertStep x ys

def sortSteps (xs : List BudgetStep) : List BudgetStep := xs.foldr insertStep []

/-- R103: the budget in force at a minute of day. -/
def budgetAt (schedule : List BudgetStep) (minute : Nat) : Nat :=
  match (schedule.filter (·.minute ≤ minute)).getLast? with
  | some x => x.budget
  | none => match schedule.getLast? with | some x => x.budget | none => 0

/-! ### Grants (R104 to R106) -/

/-- Rewrites every grant of a bay. -/
def updGrant (b : Bay) (f : Grant → Grant) (s : State) : State :=
  { s with pal := { s.pal with grants := s.pal.grants.map fun g => if g.bay == b then f g else g } }

/-- R106 steps 1 to 4; step 5, the pass, is left due (log 15). -/
def grantLeaves (b : Bay) (s : State) : State :=
  { s with pal := { s.pal with
      grants := s.pal.grants.filter (·.bay != b)
      closing := s.pal.closing.filter (· != b)
      outstanding := if s.pal.outstanding = some b then none else s.pal.outstanding
      bays := upd s.pal.bays b fun p => { p with lastRelease := some s.clk.tod, regrant := some s.clk.ticks }
      passDue := true } }

/-- R105: the fields of a live grant that becomes RELEASING. -/
def Grant.toReleasing (tod : Nat) (g : Grant) : Grant :=
  if g.state.live then
    { g with state := .releasing, changeTod := tod, issued := false, openOutcome := .none, openAck := none
             stuckRecorded := false }
  else g

/-- R105: to release a grant. -/
def releaseGrant (g : Grant) (s : State) : State :=
  match g.state with
  | .pendingClose =>
    if g.issued then contactorWrite g.bay false (updGrant g.bay (Grant.toReleasing s.clk.tod) s)
    else grantLeaves g.bay s
  | .confirming | .active => contactorWrite g.bay false (updGrant g.bay (Grant.toReleasing s.clk.tod) s)
  | .releasing | .orphaned => s

/-- R105: releases a bay's grant, if it has one. -/
def palRelease (b : Bay) (s : State) : State :=
  match grantOf b s with
  | some g => releaseGrant g s
  | none => s

/-- R104: the newest live grant that meets a condition. -/
def newestLive (p : Grant → Bool) (s : State) : Option Grant :=
  (s.pal.grants.filter fun g => g.state.live && p g).getLast?

/-- R104: a grant's level is its bay's current plan level. -/
def grantLevel (g : Grant) (s : State) : Level := level g.bay s

/-! ### The closing queue (R113) -/

/-- R113: the PAL examines the head of the closing queue and issues it when no close is outstanding and the stagger
has passed. -/
def examineClosing (s : State) : State :=
  let ready := match s.pal.lastCloseAck with | none => true | some t => decide (s.clk.ticks - t ≥ s.params.stagger)
  if s.pal.outstanding.isNone && ready then
    match s.pal.closing with
    | [] => s
    | b :: _ =>
      let s := updGrant b (fun g => { g with issued := true }) s
      contactorWrite b true { s with pal := { s.pal with outstanding := some b } }
  else s

/-- R114: the outstanding close has had its outcome. -/
def closeTaken (b : Bay) (s : State) : State :=
  examineClosing
    { s with pal := { s.pal with outstanding := none, closing := s.pal.closing.filter (· != b) } }

/-! ### The allocation pass (R108 to R112) -/

/-- R109: sheds until live load is at most B. When no NORMAL grant remains, every live grant is URGENT (R104). -/
def shedToBudget : Nat → State → State
  | 0, s => s
  | n + 1, s =>
    if liveLoad s ≤ s.pal.budget then s
    else
      match newestLive (fun g => grantLevel g s == .normal) s with
      | some g => shedToBudget n (releaseGrant g s)
      | none =>
        match newestLive (fun _ => true) s with
        | some g => shedToBudget n (releaseGrant g s)
        | none => s

/-- R110: rotation, in a minute-tick pass. -/
def rotation (s : State) : State :=
  if s.params.rotation = 0 then s
  else
    let w := (allBays.filter fun b => candidate b s && level b s == .normal).length
    let old := s.pal.grants.filter fun g =>
      g.state == .active && grantLevel g s == .normal && decide (s.clk.ticks - g.admissionTick ≥ 60 * s.params.rotation)
    (old.take w).foldl (fun s g => releaseGrant g s) s

/-- R112: admission of a candidate with heater power `p`. -/
def admitBay (b : Bay) (p : Nat) (s : State) : State :=
  { s with pal := { s.pal with
      grants := s.pal.grants ++
        [⟨b, p, level b s, s.clk.tod, s.clk.ticks, .pendingClose, s.clk.tod, false, none, .none, none, 0, false, none⟩]
      closing := s.pal.closing ++ [b] } }

/-- R111, R112: a candidate's heater power, P_h of its effective class. -/
def candidatePower (b : Bay) (s : State) : Nat := match effRec b s with | some r => r.power | none => 0

/-- R111, R112: committed load with the candidate's power stays within B. -/
def fits (b : Bay) (s : State) : Bool := decide (committedLoad s + candidatePower b s ≤ s.pal.budget)

/-- R111: sheds NORMAL grants, newest first, until the power being released and the headroom reach `p`. -/
def makeRoom : Nat → Nat → State → State
  | 0, _, s => s
  | n + 1, p, s =>
    if releasingPower s + s.pal.budget ≥ p + committedLoad s then s
    else
      match newestLive (fun g => grantLevel g s == .normal) s with
      | some g => makeRoom n p (releaseGrant g s)
      | none => s

/-- R111, R112: bays in ascending order from a pointer, wrapping. -/
def bayRing (start : Bay) : List Bay := allBays.drop start.val ++ allBays.take start.val

/-- The bay after a bay, with bay 1 after bay 32. -/
def nextBay (b : Bay) : Bay := b + 1

/-- R111: the urgent walk; it answers the last bay admitted. -/
def urgentWalk : List Bay → Option Bay → State → State × Option Bay
  | [], last, s => (s, last)
  | b :: bs, last, s =>
    if candidate b s && level b s == .urgent then
      if fits b s then urgentWalk bs (some b) (admitBay b (candidatePower b s) s)
      else (makeRoom s.pal.grants.length (candidatePower b s) s, last)
    else urgentWalk bs last s

/-- R111. -/
def urgentAdmission (s : State) : State :=
  let r := urgentWalk (bayRing s.pal.urgentPtr) none s
  match r.2 with
  | some b => { r.1 with pal := { r.1.pal with urgentPtr := nextBay b } }
  | none => r.1

/-- R112: the normal walk, first fit. -/
def normalWalk : List Bay → Option Bay → State → State × Option Bay
  | [], last, s => (s, last)
  | b :: bs, last, s =>
    if candidate b s && level b s == .normal && fits b s then
      normalWalk bs (some b) (admitBay b (candidatePower b s) s)
    else normalWalk bs last s

/-- R112: runs only when no URGENT candidate remains unadmitted. -/
def normalAdmission (s : State) : State :=
  if allBays.any fun b => candidate b s && level b s == .urgent then s
  else
    let r := normalWalk (bayRing s.pal.normalPtr) none s
    match r.2 with
    | some b => { r.1 with pal := { r.1.pal with normalPtr := nextBay b } }
    | none => r.1

/-- R108: one pass, its four steps and the look at the closing queue. -/
def passOnce (minute : Bool) (s : State) : State :=
  let s := { s with pal := { s.pal with passDue := false } }
  let s := shedToBudget s.pal.grants.length s
  let s := if minute then rotation s else s
  examineClosing (normalAdmission (urgentAdmission s))

/-- R106 step 5: a grant that leaves the list inside a pass runs a pass, after the one in hand (DEDUCED, log 15). A bay whose
grant has left is in its re-grant wait, so at most 32 passes follow the first. -/
def passLoop : Nat → Bool → State → State
  | 0, _, s => s
  | n + 1, minute, s =>
    let s := passOnce minute s
    if s.pal.passDue then passLoop n false s else s

/-- R108: the allocation pass. -/
def allocationPass (minute : Bool) (s : State) : State := passLoop 33 minute s

/-! ### What the PAL does on its events -/

/-- R103: works out B; a change of B runs a pass. -/
def workOutBudget (s : State) : State :=
  { s with pal := { s.pal with budget := budgetAt s.pal.schedule s.minute } }

/-- R103: after an accepted SET BUDGET. -/
def budgetChanged (s : State) : State :=
  let s' := workOutBudget s
  if s'.pal.budget = s.pal.budget then s' else allocationPass false s'

/-- R103, R108: the PAL's part of a minute tick. -/
def palMinute (s : State) : State := allocationPass true (workOutBudget s)

/-- R120, R108: a plan change for a bay. -/
def palPlanChange (b : Bay) (s : State) : State :=
  let s := if level b s = .none ∨ level b s = .wait then palRelease b s else s
  allocationPass false s

/-- R107, R108: a candidacy event. -/
def candidacyEvent (s : State) : State := allocationPass false s

/-- R120: plug accepted. -/
def palPlug (b : Bay) (plugged : Bool) (s : State) : State :=
  allocationPass false (if plugged then s else palRelease b s)

/-- R120, R107: class change. -/
def palClassChange (b : Bay) (s : State) : State :=
  allocationPass false (if effClass b s = 0 then palRelease b s else s)

/-- R122: the LCE asks for a pause. -/
def palPause (b : Bay) (s : State) : State :=
  if s.pal.bays[b].pause then s
  else allocationPass false (palRelease b (updPalBay b (fun p => { p with pause := true }) s))

/-- R122: the end of a pause. -/
def palPauseEnd (b : Bay) (s : State) : State :=
  allocationPass false (updPalBay b (fun p => { p with pause := false }) s)

/-- R124: the FRS has removed the bay's HEATER records. -/
def palUnblock (b : Bay) (s : State) : State :=
  if s.pal.bays[b].faultBlock then
    allocationPass false (updPalBay b (fun p => { p with faultBlock := false }) s)
  else s

/-- R123: the mode leaves RUN. -/
def palStop (s : State) : State := allocationPass false (forBays palRelease s)

/-- R121: a grant that becomes ORPHANED; one that is ORPHANED already keeps its 3 s (log 25). -/
def Grant.toOrphaned (tod ticks : Nat) (g : Grant) : Grant :=
  if g.state = .orphaned then g
  else { g with state := .orphaned, changeTod := tod, issued := false, openAck := none, orphanedAt := some ticks }

/-- R121: the OFFLINE event. The pass that the change of pedestal state runs follows in `pedestalChanged`. -/
def palOffline (b : Bay) (s : State) : State :=
  if (grantOf b s).isSome then
    let s := contactorWrite b false (updGrant b (Grant.toOrphaned s.clk.tod s.clk.ticks) s)
    { s with pal := { s.pal with
        closing := s.pal.closing.filter (· != b)
        outstanding := if s.pal.outstanding = some b then none else s.pal.outstanding } }
  else s

/-- R115: the outcome of an open write of a RELEASING grant. -/
def openOutcome (b : Bay) (ok : Bool) (s : State) : State :=
  if ok then updGrant b (fun g => { g with openOutcome := .acknowledged, openAck := some s.clk.ticks }) s
  else updGrant b (fun g => { g with openOutcome := .failed }) s

/-- R114: an issued close is acknowledged. -/
def Grant.toConfirming (tod ticks : Nat) (g : Grant) : Grant :=
  if g.state = .pendingClose then
    { g with state := .confirming, changeTod := tod, issued := false, closeAck := some ticks }
  else g

/-- R114, R115: the PBC's report for a write of the bay that carried the PAL's field, with the contactor value sent.
A failure with OFFLINE is ignored. -/
def palWriteReport (b : Bay) (closed : Bool) (r : BusResult) (s : State) : State :=
  match grantOf b s, r with
  | none, _ => s
  | some _, .failure .offline => s
  | some g, r =>
    let ok : Bool := match r with | .success _ => true | .failure _ => false
    match g.state with
    | .pendingClose =>
      if g.issued then
        if ok then
          if closed then
            let s := updGrant b (Grant.toConfirming s.clk.tod s.clk.ticks) s
            closeTaken b { s with pal := { s.pal with lastCloseAck := some s.clk.ticks } }
          else s
        else closeTaken b (releaseGrant g s)
      else s
    | .releasing =>
      let s := if closed then
          if ok ∧ s.pal.outstanding = some b then { s with pal := { s.pal with lastCloseAck := some s.clk.ticks } } else s
        else openOutcome b ok s
      if s.pal.outstanding = some b then closeTaken b s else s
    | .confirming | .active | .orphaned => s

/-! ### Reports and the meter (R115, R117 to R119, R125) -/

/-- R117: measured power in 0.1 kW. -/
def measuredPower (current voltage : Nat) : Nat := current * voltage * 1732 / 1000000

/-- R117: the latest P_meas of a bay, from a HIGH report. -/
def palMeasure (b : Bay) (s : State) : State :=
  let r := s.scs.reports[b]
  if r.high then updPalBay b (fun p => { p with pmeas := measuredPower r.current s.params.voltage }) s else s

/-- R118: a CONFIRMING grant with enough measured power becomes ACTIVE. -/
def Grant.confirm (pmeas tod : Nat) (g : Grant) : Grant :=
  if g.state = .confirming ∧ pmeas ≥ g.power / 2 then { g with state := .active, changeTod := tod } else g

/-- R119: the overload count after a HIGH report. -/
def Grant.countOverload (pmeas : Nat) (g : Grant) : Grant :=
  if g.state = .confirming ∨ g.state = .active then
    { g with overload := if pmeas > g.power * 125 / 100 then g.overload + 1 else 0 }
  else g

/-- R115: a report event for a bay with a RELEASING grant that has an open outcome. -/
def palReadback (b : Bay) (s : State) : State :=
  match grantOf b s with
  | some g =>
    if g.state = .releasing ∧ g.openOutcome ≠ .none then
      if !s.scs.reports[b].closed then allocationPass false (grantLeaves b s)
      else if g.openOutcome = .failed then
        contactorWrite b false (updGrant b (fun g => { g with openOutcome := .none }) s)
      else s
    else s
  | none => s

/-- R117 to R119: the current of a report event; the overload itself is taken in Faults.lean. -/
def palCurrent (b : Bay) (s : State) : State :=
  let s := palMeasure b s
  if s.scs.reports[b].high then
    updGrant b (fun g => (g.confirm s.pal.bays[b].pmeas s.clk.tod).countOverload s.pal.bays[b].pmeas) s
  else s

/-- R119: the bay's grant has met two overloaded HIGH reports in a row. -/
def overloaded (b : Bay) (s : State) : Bool :=
  match grantOf b s with
  | some g => (g.state == .confirming || g.state == .active) && decide (g.overload ≥ 2)
  | none => false

/-- R125: the meter check at a round's completion. -/
def meterCheck (s : State) : State :=
  let sum := (allBays.map fun b => s.pal.bays[b].pmeas).sum
  let excess := if sum > s.pal.budget * 105 / 100 then min 255 (s.pal.excess + 1) else 0
  let s := { s with pal := { s.pal with meterSum := sum, excess := excess } }
  if excess ≥ 2 then
    let s := match newestLive (fun g => g.state == .active && grantLevel g s == .normal) s with
      | some g => releaseGrant g s
      | none => s
    raiseDepot .budgetExceeded s
  else s

end Sys2Proof.Machine
end

