-- ==== Sys2Proof/Machine/Heat.lean ====
section
/-! DEFINITION. The Heat Planner: one plan of a bay (R91 to R97), its plan change event, and the weather record. -/

namespace Sys2Proof.Machine

/-- Ceiling of a quotient of naturals. -/
def ceilDiv (a b : Nat) : Nat := (a + b - 1) / b

/-- R94: derating in per mille from the loss factor and the outdoor temperature. -/
def derating (loss : Nat) (outdoor : Int) : Nat := min 900 (loss * (max 0 (-outdoor)).toNat / 10)

/-- R94: effective warm rate. -/
def effectiveRate (rate derate : Nat) : Nat := max 1 (rate * (1000 - derate) / 1000)

/-- R95: the minutes of full heat for a positive rise, before the cut to 480. -/
def rawNeed (rise rate : Nat) : Nat := ceilDiv (rise * 10) rate

/-- R96: the level of a bay that asks for heat. -/
def levelOf (slack : Int) (margin : Nat) (priority : Bool) : Level :=
  if slack ≤ 0 then .urgent
  else if slack ≤ margin then (if priority then .urgent else .normal)
  else .wait

/-- R91: a bay with no plan; the minute of last plan is written. -/
def noPlan (minute : Nat) : Plan := { Plan.atReset with minute := some minute }

/-- R91: the bay has a plan when it has an effective class, a current entry and a plug, and stands or is ready. -/
def hasPlan (b : Bay) (s : State) : Bool :=
  (effRec b s).isSome && (curEntry b s).isSome && s.scs.reports[b].plugged && s.dpc.bays[b].state.planned

/-- R92 to R97: the plan for a class record, an entry, a target and a cabin temperature. -/
def planFrom (r : ClassRec) (e : Entry) (target : Nat) (src : TargetSource) (cabin : Int) (cabinSrc : CabinSource)
    (wasReached : Bool) (s : State) : Plan :=
  let d := derating r.loss (outdoor s)
  let rate := effectiveRate r.rate d
  let ttd := timeToGo e s
  let rise := (target : Int) - cabin
  let base : Plan :=
    { need := 0, slack := ttd, level := .none, reached := true, long := false, energy := 0
      target := some target, targetSource := some src, cabin := some cabin, cabinSource := some cabinSrc
      ttd := some ttd, derating := some d, rate := some rate, minute := some s.minute }
  if rise ≤ 0 then base
  else
    let raw := rawNeed rise.toNat rate
    let need := min 480 raw
    let slack := ttd - need
    let reached := wasReached && decide (cabin ≥ (target : Int) - s.params.keepBand)
    { base with
      need := need
      slack := slack
      long := decide (raw > 480)
      energy := ceilDiv (need * r.power) 60
      reached := reached
      level := if reached then .none else levelOf slack s.params.margin e.priority }

/-- R86: the cabin temperature of a plan; the outdoor temperature stands in for an ABSENT probe. -/
def cabinFor (b : Bay) (s : State) : Int × CabinSource :=
  match s.scs.reports[b].cabin with
  | some c => (c, .probe)
  | none => (outdoor s, .outdoor)

/-- R91 to R97: what a plan of a bay writes. -/
def computePlan (b : Bay) (s : State) : Plan :=
  if hasPlan b s then
    match effRec b s, curEntry b s, targetOf b s with
    | some r, some e, some (t, src) =>
      planFrom r e t src (cabinFor b s).1 (cabinFor b s).2 s.hpl.plans[b].reached s
    | _, _, _ => noPlan s.minute
  else noPlan s.minute

/-- R83, R84: runs a plan for a bay; a changed level or REACHED flag gives the PAL a plan change. -/
def planBay (b : Bay) (s : State) : State :=
  let p := computePlan b s
  let old := s.hpl.plans[b]
  let s := updPlan b p s
  if p.level = old.level ∧ p.reached = old.reached then s else palPlanChange b s

/-- R83: plans every bay, in ascending order; each plan change runs its pass before the next bay is planned (R84, R108), and
the manual gives the bays no order (DESIGN CHOICE, log 38). -/
def planAll : State → State := forBays planBay

/-- R87: writes a clamped outdoor temperature. -/
def clampOutdoor (t : Int) : Int := max (-400) (min 400 t)

/-- R87: an accepted SET WEATHER. -/
def acceptWeather (t : Int) (s : State) : State :=
  planAll { s with hpl := { s.hpl with weather := ⟨some (clampOutdoor t), some 0, false⟩ } }

/-- R88: the age of the weather record counts second ticks. -/
def ageWeather (s : State) : State :=
  { s with hpl := { s.hpl with weather := { s.hpl.weather with age := s.hpl.weather.age.map (· + 1) } } }

/-- R88: STALE is set when the age reaches 1800 second ticks. -/
def weatherLimit (s : State) : State :=
  match s.hpl.weather.age with
  | some a =>
    if a ≥ Config.staleTicks then { s with hpl := { s.hpl with weather := { s.hpl.weather with stale := true } } } else s
  | none => s

end Sys2Proof.Machine
end

