-- ==== Sys2Proof/Machine/Departure.lean ====
section
/-! DEFINITION. The Departure Controller: timetable, clearance machine, holds, overdue supervision, gate line, aspect and
supply writes (chapter 9). The reports of EMPTY to other blocks are made in Events.lean. -/

namespace Sys2Proof.Machine

/-! ### Timetable (R170, R173) -/

/-- R170: stored order is departure minute, then id. -/
def insertEntry (x : Entry) : List Entry → List Entry
  | [] => [x]
  | y :: ys =>
    if x.minute < y.minute ∨ (x.minute = y.minute ∧ x.id < y.id) then x :: y :: ys else y :: insertEntry x ys

/-- R170: changes an entry's state, records the time it became terminal, and raises ENTRY. -/
def setEntryState (id : Nat) (st : EntryState) (s : State) : State :=
  raiseEntry id
    { s with dpc := { s.dpc with
        entries := s.dpc.entries.map fun e =>
          if e.id == id then
            { e with state := st, terminalSince := if st.live then e.terminalSince else some s.clk.ticks }
          else e } }

/-- R173: departure order, ascending relative departure and then ascending id. -/
def sooner (s : State) (a e : Entry) : Bool :=
  decide (timeToGo a s < timeToGo e s ∨ (timeToGo a s = timeToGo e s ∧ a.id < e.id))

/-- R173: the first of a list of entries in departure order. -/
def firstToGo (s : State) (es : List Entry) : Option Entry :=
  es.foldl (fun best e => match best with
    | none => some e
    | some x => if sooner s e x then some e else some x) none

/-- R173: a bay's current entry, worked out. -/
def workOutCurrent (b : Bay) (s : State) : Option Nat :=
  let es := s.dpc.entries.filter (·.bay == b)
  match es.find? (·.state == .cleared) with
  | some e => some e.id
  | none => (firstToGo s (es.filter fun e => e.state == .scheduled || e.state == .called)).map (·.id)

/-- R173: the current entry that the call rule makes CALLED. -/
def callDue (b : Bay) (s : State) : Option Entry :=
  (curEntry b s).filter fun e => e.state == .scheduled && decide (timeToGo e s ≤ s.params.callLead)

/-- R173: the call rule. -/
def callRule (b : Bay) (s : State) : State :=
  match callDue b s with
  | some e => setEntryState e.id .called s
  | none => s

/-- R173: works out a bay's current entry; a change returns a CALLED entry to SCHEDULED and applies the call rule.
The second part says whether it changed, which is the current-entry event of R83. -/
def refreshCurrent (b : Bay) (s : State) : State × Bool :=
  let new := workOutCurrent b s
  if new = s.dpc.bays[b].cur then (s, false)
  else
    let s := match curEntry b s with
      | some e => if e.state = .called then setEntryState e.id .scheduled s else s
      | none => s
    (callRule b (updDpc b (fun d => { d with cur := new }) s), true)

/-! ### The clearance machine (R175 to R184) -/

/-- R178: the heat and lamp conditions are held true from RELEASING on, through HELD and CLEARED, until the bay is STANDING
or EMPTY (DEDUCED, log 50). -/
def releasedIn (st : ClearState) (released : Bool) : Bool :=
  match st with
  | .empty | .standing => false
  | .releasing => true
  | .ready | .cleared | .held => released

/-- R191: enters a clearance state and writes its aspect; a change of aspect clears the rewrite mark, also where the
decision goes on to a state of the aspect before it (DESIGN CHOICE, log 53). A change of state that keeps the aspect, as
RELEASING to HELD, writes it too and keeps the mark: R191 writes at each change of state, and also makes no further write under
the mark until the aspect or the wanted supply changes (DESIGN CHOICE, log 53). The signal check is armed anew by the
acknowledge of a GREEN write only (R185). -/
def enterState (b : Bay) (st : ClearState) (s : State) : State :=
  aspectWrite b st.aspect (updDpc b (fun d => { d with
    state := st, check := none, rewrite := d.rewrite && decide (st.aspect = d.state.aspect)
    released := releasedIn st d.released }) s)

/-- R188: the overdue timer stops and the count becomes 0. -/
def stopOverdue (b : Bay) : State → State := updDpc b fun d => { d with overdue := none, overdueCount := 0 }

/-- R181, R184: a CLEARED current entry returns to CALLED. -/
def uncallCleared (b : Bay) (s : State) : State :=
  match curEntry b s with
  | some e => if e.state = .cleared then setEntryState e.id .called s else s
  | none => s

/-- R178: the current entry is still the CALLED entry the bay had on entering RELEASING. -/
def stillCalled (b : Bay) (s : State) : Bool :=
  s.dpc.bays[b].cur == s.dpc.bays[b].relEntry &&
    match curEntry b s with | some e => e.state == .called | none => false

/-- R178. -/
def enterReleasing (b : Bay) (s : State) : State :=
  enterState b .releasing (updDpc b (fun d => { d with relEntry := d.cur }) s)

/-- R188: the elapsed second of the first expiry, or none with W = 0. -/
def firstExpiry (s : State) : Option Nat :=
  if s.params.overdueWindow = 0 then none else some (s.clk.ticks + 60 * s.params.overdueWindow)

/-- R179: enters CLEARED from RELEASING. -/
def enterCleared (b : Bay) (s : State) : State :=
  let s := match s.dpc.bays[b].cur with | some id => setEntryState id .cleared s | none => s
  let s := updDpc b (fun d => { d with overdue := firstExpiry s, overdueCount := 0 }) s
  raiseBay .cleared b (enterState b .cleared s)

/-- R181: a CLEARED bay plugged in again. -/
def replug (b : Bay) (s : State) : State :=
  enterState b .standing (refreshCurrent b (stopOverdue b (uncallCleared b s))).1

/-- R184: a HELD bay whose set is empty returns. -/
def holdReturn (b : Bay) (s : State) : State :=
  let leave := updDpc b fun d => { d with ret := none }
  match s.dpc.bays[b].ret with
  | some .cleared =>
    if pathClear b s && s.dpc.readingReleased then enterState b .cleared (leave s)
    else
      let s := updDpc b (fun d => { d with relEntry := d.cur }) (leave s)
      enterState b .releasing (refreshCurrent b (stopOverdue b (uncallCleared b s))).1
  | some .releasing => enterState b .releasing (leave s)
  | _ => enterState b .ready (leave s)

/-- R175: one transition of a bay in its present state, or none when no rule applies. A READY bay with a false condition
returns to STANDING before its plug is looked at (DESIGN CHOICE, log 17). -/
def decideStep (b : Bay) (s : State) : Option State :=
  let d := s.dpc.bays[b]
  let plugged := s.scs.reports[b].plugged
  match d.state with
  | .empty => none
  | .standing => if readyConditions b s then some (raiseBay .ready b (enterState b .ready s)) else none
  | .ready =>
    if !readyConditions b s then some (enterState b .standing s)
    else if !plugged then some (enterReleasing b s)
    else none
  | .releasing =>
    if plugged || !stillCalled b s then some (enterState b .standing s)
    else if pathClear b s && s.dpc.readingReleased then some (enterCleared b s)
    else none
  | .cleared => if plugged then some (replug b s) else none
  | .held =>
    if hasHold d.holds .fault && faultCondition b s then
      some (updDpc b (fun d => { d with holds := dropHold d.holds .fault }) s)
    else if d.holds = 0 then some (holdReturn b s)
    else none

/-- R83: the bay entered or left the planned states, or its current entry changed. -/
def planNeeded (b : Bay) (s s' : State) : Bool :=
  (s.dpc.bays[b].state.planned != s'.dpc.bays[b].state.planned) || (s.dpc.bays[b].cur != s'.dpc.bays[b].cur)

/-- R175: applies the transition rules until none applies. -/
def decideLoop : Nat → Bay → State → Bool → State × Bool
  | 0, _, s, p => (s, p)
  | n + 1, b, s, p =>
    match decideStep b s with
    | none => (s, p)
    | some s' => decideLoop n b s' (p || planNeeded b s s')

/-- R175: a decision on a bay; the HPL takes its events once the decision is whole (DEDUCED, log 16). No decision takes
more than eight transitions. -/
def decideBay (b : Bay) (s : State) : State :=
  let r := decideLoop 12 b s false
  if r.2 then planBay b r.1 else r.1

/-- R175: decides on every bay. -/
def decideAll : State → State := forBays decideBay

/-- R173, R175: after an event that added an entry for the bay or changed the state of one; a bay whose current entry stays
is not decided on. The next entry is called before the decision, so a READY bay whose CALLED entry is cancelled stays
READY when its next entry is called at once (DESIGN CHOICE, log 52). -/
def entriesChanged (b : Bay) (s : State) : State :=
  let r := refreshCurrent b s
  if r.2 then decideBay b (planBay b r.1) else r.1

/-! ### Holds (R182, R183) -/

/-- R182: the states a reason arises for. -/
def holdApplies (r : HoldReason) (d : DpcBay) : Bool :=
  match d.state with
  | .empty | .standing => false
  | .ready | .releasing => match r with | .signal | .path | .gate => false | _ => true
  | .cleared => true
  | .held => match r with | .signal => false | .path | .gate => d.ret == some .cleared | _ => true

/-- R184: the CALLED entry a bay is held with; a CLEARED one returns to CALLED before it counts. -/
def heldEntry (b : Bay) (s : State) : Option Nat :=
  match s.dpc.bays[b].state, curEntry b s with
  | .releasing, _ => s.dpc.bays[b].relEntry
  | _, some e => if e.state = .called ∨ e.state = .cleared then some e.id else none
  | _, none => none

/-- R183: a hold reason arises for a bay. A reason already in the set changes nothing (log 18). -/
def holdArises (r : HoldReason) (b : Bay) (s : State) : State :=
  let d := s.dpc.bays[b]
  if !holdApplies r d then s
  else if d.state = .held then
    if hasHold d.holds r then s
    else raiseBay .held b (updDpc b (fun d => { d with holds := addHold d.holds r }) s)
  else
    let s' := raiseBay .held b (enterState b .held
      (updDpc b (fun d => { d with ret := some d.state, holds := addHold 0 r, relEntry := heldEntry b s }) s))
    if d.state.planned then planBay b s' else s'

/-- R182: a reason leaves a bay's set. -/
def holdClears (r : HoldReason) (b : Bay) : State → State :=
  updDpc b fun d => { d with holds := dropHold d.holds r }

/-- R6, R182: a change of path for a bay. -/
def pathChange (b : Bay) (s : State) : State :=
  decideBay b (if pathClear b s then holdClears .path b s else holdArises .path b s)

/-- R6: a change of path for every bay behind a bay, front to back: the manual gives these bays no order (DESIGN CHOICE,
log 38). -/
def pathBehind (b : Bay) (s : State) : State := (behind b s).foldl (fun s a => pathChange a s) s

/-! ### Plug, presence and report events -/

/-- R191: writes the wanted supply, and the rewrite mark is cleared by the change. -/
def writeSupply (b : Bay) (s : State) : State :=
  supplyWrite b (wantedSupply b s) (updDpc b (fun d => { d with rewrite := false }) s)

/-- R184: a plug change acts on the return state of a HELD bay. -/
def heldPlug (b : Bay) (plugged : Bool) (s : State) : State :=
  match s.dpc.bays[b].ret, plugged with
  | some .ready, false => updDpc b (fun d => { d with ret := some .releasing }) s
  | some .releasing, true => updDpc b (fun d => { d with ret := some .ready }) s
  | some .cleared, true =>
    let s := updDpc b (fun d => { d with
      ret := some .ready, holds := dropHold (dropHold d.holds .path) .gate }) s
    let r := refreshCurrent b (stopOverdue b (uncallCleared b s))
    if r.2 then planBay b r.1 else r.1
  | _, _ => s

/-- R178, R181: a plug accepted PLUGGED takes a RELEASING or CLEARED bay to STANDING. -/
def plugReturn (b : Bay) (s : State) : State :=
  match s.dpc.bays[b].state with
  | .releasing => planBay b (enterState b .standing s)
  | .cleared => planBay b (replug b s)
  | .empty | .standing | .ready | .held => s

/-- R178, R181, R184, R191: the DPC takes an accepted plug change. The decision on a bay plugged in follows the start of
its identification (`plugEvent`). -/
def dpcPlug (b : Bay) (plugged : Bool) (s : State) : State :=
  let s := if s.clu.mode = .run then writeSupply b s else s
  let s := if s.dpc.bays[b].state = .held then heldPlug b plugged s else s
  if plugged then plugReturn b s else decideBay b s

/-- R176: presence accepted OCCUPIED. The HPL's plan of the bay (R83) comes first, then the decision on it (R175), and then the
change of path of the bays behind it (R6): the manual gives the three no order (DESIGN CHOICE, log 14). -/
def dpcOccupied (b : Bay) (s : State) : State :=
  if s.dpc.bays[b].state = .empty then
    pathBehind b (decideBay b (planBay b (raiseBay .arrived b (enterState b .standing s))))
  else s

/-- R180: the entry and the notice of an exit. -/
def exitEntry (b : Bay) (s : State) : State :=
  if s.dpc.bays[b].onTheWay then
    raiseBay .departed b
      (match s.dpc.bays[b].cur with | some id => setEntryState id .departed s | none => s)
  else
    raiseBay .unclearedExit b
      (match curEntry b s with
       | some e => if e.state = .called then setEntryState e.id .unclearedExit s else s
       | none => s)

/-- R176, R180: the DPC's own part of a bay becoming EMPTY, with the HPL's plan that it brings (R83) before the reports to the
other blocks (DESIGN CHOICE, log 14). -/
def dpcExit (b : Bay) (s : State) : State :=
  let old := s
  let s := enterState b .empty (exitEntry b s)
  let s := updDpc b (fun d => { d with
    holds := 0, ret := none, overdue := none, overdueCount := 0, heatWaiver := false, relEntry := none }) s
  let r := refreshCurrent b s
  if r.2 || planNeeded b old r.1 then planBay b r.1 else r.1

/-- R185: the signal check takes a report event. -/
def signalCheck (b : Bay) (s : State) : State :=
  let d := s.dpc.bays[b]
  match d.check with
  | none => s
  | some n =>
    if d.state = .cleared ∧ !s.scs.reports[b].pressed then
      if s.scs.reports[b].aspect = .green then updDpc b (fun d => { d with check := some 0 }) s
      else
        let s := updDpc b (fun d => { d with check := some (n + 1) }) s
        if n + 1 ≥ 2 then holdArises .signal b s else s
    else s

/-- R182: the stop button of a report event. -/
def stopButton (b : Bay) (s : State) : State :=
  if s.scs.reports[b].pressed then holdArises .stop b s else holdClears .stop b s

/-- R185: the DPC takes a report event. -/
def dpcReport (b : Bay) (s : State) : State := decideBay b (signalCheck b s)

/-- R185, R191: the PBC's report for a write that carried a field of the DPC's, with the image sent. -/
def dpcWriteReport (b : Bay) (sent : Image) (r : BusResult) (s : State) : State :=
  let d := s.dpc.bays[b]
  match r with
  | .success _ =>
    updDpc b (fun d => { d with
      rewrite := false, check := if sent.aspect = .green ∧ d.state = .cleared then some 0 else d.check }) s
  | .failure .offline => s
  | .failure _ =>
    if sent.aspect = .green ∧ d.state = .cleared then holdArises .signal b s
    else if d.rewrite then s
    else
      outputWrite b (fun i => { i with aspect := d.state.aspect, supplyOn := wantedSupply b s }) ⟨false, true, true⟩
        (updDpc b (fun d => { d with rewrite := true }) s)

/-- R182: the OFFLINE event. -/
def dpcOffline (b : Bay) (s : State) : State := holdArises .pedestal b s

/-! ### Minute ticks and clock steps (R17, R174) -/

/-- R174 step 1: live entries whose D is the new minute of day become DUE. -/
def markDue (minute : Nat) (s : State) : State :=
  { s with dpc := { s.dpc with
      entries := s.dpc.entries.map fun e =>
        if e.state.live && e.minute == minute then { e with due := true } else e } }

/-- R17: the entries a forward step of k minutes passed over become DUE. -/
def forwardStep (old k : Nat) (s : State) : State :=
  { s with dpc := { s.dpc with
      entries := s.dpc.entries.map fun e =>
        let t := ((e.minute : Int) - old) % 1440
        if e.state.live && !e.due && decide (1 ≤ t ∧ t ≤ (k : Int) - 1) then { e with due := true } else e } }

/-- R174 step 2. -/
def missEntries (s : State) : State :=
  let late := s.dpc.entries.filter fun e =>
    e.due && (e.state == .scheduled || e.state == .called) && decide (minutesSince e s ≥ s.params.missLimit)
  late.foldl (fun s e => setEntryState e.id .missed s) s

/-- R174 step 3: an entry terminal for 600 second ticks. -/
def isOld (s : State) (e : Entry) : Bool :=
  !e.state.live && match e.terminalSince with | some t => decide (s.clk.ticks - t ≥ Config.removalTicks) | none => false

/-- R174 step 3. The removed ids are free: an entry added later with one of them is not the entry that a bay entered
RELEASING or was held with (R178, R184). -/
def removeEntries (s : State) : State :=
  let old := s.dpc.entries.filter (isOld s)
  let s := { s with dpc := { s.dpc with
      entries := s.dpc.entries.filter (!isOld s ·)
      bays := s.dpc.bays.map fun d => { d with relEntry := d.relEntry.filter fun id => !old.any (·.id == id) } } }
  old.foldl (fun s e => forgetEntry e.id s) s

/-- R174 step 4, for one bay. -/
def currentAtTick (b : Bay) (s : State) : State :=
  let r := refreshCurrent b s
  if r.2 then planBay b r.1 else callRule b r.1

/-- R174: the DPC's part of a minute tick. -/
def dpcMinute (minute : Nat) (s : State) : State :=
  decideAll (forBays currentAtTick (removeEntries (missEntries (markDue minute s))))

/-- R193, R175: an accepted change of the call lead; a bay whose current entry it calls is decided on. -/
def callLeadChanged (s : State) : State :=
  forBays (fun b s => if (callDue b s).isSome then decideBay b (callRule b s) else s) s

/-! ### Overdue (R188) -/

/-- R188: an expiry of a bay's overdue timer. -/
def overdueLimit (b : Bay) (s : State) : State :=
  match s.dpc.bays[b].overdue with
  | some t =>
    if s.clk.ticks ≥ t then
      raiseBay .overdue b (updDpc b (fun d => { d with
        overdue := some (t + Config.overdueStepTicks), overdueCount := min 255 (d.overdueCount + 1) }) s)
    else s
  | none => s

/-! ### The gate hold line (R189, R190) -/

/-- R190: the level read on the pin; a level other than the reading starts the debounce, the reading's own level ends it. -/
def setPin (high : Bool) (s : State) : State :=
  if s.dpc.pinHigh = high then s
  else { s with dpc := { s.dpc with
      pinHigh := high, debounce := if high = s.dpc.readingReleased then none else some s.clk.now } }

/-- R189: the latch becomes ASSERTED and pulls the pin low. -/
def latchAssert (s : State) : State :=
  if s.dpc.latchReleased then
    raiseDepot .gate (setPin false { s with dpc := { s.dpc with latchReleased := false } })
  else s

/-- R189: the latch becomes RELEASED; what level the line then takes is told by GATE_PIN_CHANGE. -/
def latchRelease (s : State) : State :=
  if s.dpc.latchReleased then s
  else raiseDepot .gate { s with dpc := { s.dpc with latchReleased := true } }

/-- R190: a change of level on the pin, which reads low while the latch is ASSERTED (log 19). -/
def pinChange (high : Bool) (s : State) : State := setPin (high && s.dpc.latchReleased) s

/-- R190: the pin has read the other level for 50 ms. -/
def gateReading (s : State) : State :=
  match s.dpc.debounce with
  | none => s
  | some t =>
    let s := elapseTo (t + Config.debounceMs) s
    let s := raiseDepot .gate { s with dpc := { s.dpc with readingReleased := s.dpc.pinHigh, debounce := none } }
    decideAll (forBays (if s.dpc.readingReleased then holdClears .gate else holdArises .gate) s)

/-! ### Mode changes (R192) -/

/-- R192: the mode has left RUN. -/
def dpcStop (s : State) : State :=
  let s := forBays (holdArises .mode) (latchAssert s)
  decideAll (forBays (fun b s => if s.scs.reports[b].plugged then writeSupply b s else s) s)

/-- R192: the mode has entered RUN: MODE leaves, the decisions, the supplies, in the order of R192 and R200. -/
def dpcStart (s : State) : State :=
  forBays (fun b s => if s.scs.reports[b].plugged then writeSupply b s else s)
    (decideAll (forBays (holdClears .mode) s))

end Sys2Proof.Machine
end

