-- ==== Sys2Proof/Machine/Operands.lean ====
section
/-! DEFINITION. Every byte layout of section 10.7 and R199: numbers and enumerations, control link frames and their CRC,
pedestal orders and reports, coach messages and replies. -/

namespace Sys2Proof.Machine

/-! ### Numbers (R199) -/

/-- An unsigned number of one byte. -/
def u8 (n : Nat) : List Byte := [BitVec.ofNat 8 n]
/-- An unsigned number of two bytes, high byte first. -/
def u16 (n : Nat) : List Byte := [BitVec.ofNat 8 (n / 256), BitVec.ofNat 8 n]
/-- An unsigned number of three bytes, high byte first. -/
def u24 (n : Nat) : List Byte := [BitVec.ofNat 8 (n / 65536), BitVec.ofNat 8 (n / 256), BitVec.ofNat 8 n]
/-- A signed number of two bytes in two's complement. -/
def s16 (i : Int) : List Byte := u16 (i % 65536).toNat
/-- A flag. -/
def flag (b : Bool) : List Byte := u8 (if b then 1 else 0)
/-- A time of day in seconds as hours, minutes, seconds. -/
def timeOfDay (t : Nat) : List Byte := u8 (t / 3600) ++ u8 (t / 60 % 60) ++ u8 (t % 60)
/-- A field of `width` bytes that may be none: all ones for none. -/
def orOnes {α : Type} (width : Nat) (f : α → List Byte) : Option α → List Byte
  | some x => f x
  | none => List.replicate width 0xFF#8
/-- A signed field that may be none, and ABSENT: 0x7FFF for none. -/
def orAbsent : Option Int → List Byte
  | some i => s16 i
  | none => u16 0x7FFF

/-- The number two bytes spell. -/
def word (h l : Byte) : Nat := h.toNat * 256 + l.toNat
/-- The signed number two bytes spell. -/
def swd (h l : Byte) : Int := if word h l < 32768 then word h l else (word h l : Int) - 65536

/-- R199: a flag byte of a request. -/
def flagOf (b : Byte) : Option Bool := if b = 0 then some false else if b = 1 then some true else none

/-- R199: a character is 0x20 to 0x7E. -/
def isChar (b : Byte) : Bool := decide (0x20 ≤ b.toNat ∧ b.toNat ≤ 0x7E)

/-- The bay a byte names, R1. -/
def bayByte (b : Byte) : Option Bay := bayOf b.toNat

/-! ### Enumeration codes (R199, 10.7) -/

def Mode.code : Mode → Nat | .config => 0 | .run => 1 | .safe => 2
def LinkRate.code : LinkRate → Nat | .baud19200 => 0 | .baud57600 => 1 | .baud115200 => 2 | .baud230400 => 3
def BusRate.code : BusRate → Nat | .kbit31 => 0 | .kbit62 => 1 | .kbit125 => 2
def Aspect.code : Aspect → Nat | .dark => 0 | .red => 1 | .amber => 2 | .green => 3
def PedState.code : PedState → Nat | .unseen => 0 | .online => 1 | .suspect => 2 | .offline => 3
def SlotState.code : SlotState → Nat | .idle => 0 | .sending => 1 | .awaiting => 2 | .fetching => 3
def IdentState.code : IdentState → Nat | .none => 0 | .waiting => 1 | .running => 2 | .done => 3 | .failed => 4
def Level.code : Level → Nat | .none => 0 | .wait => 1 | .normal => 2 | .urgent => 3
def TargetSource.code : TargetSource → Nat | .entry => 0 | .cls => 1
def CabinSource.code : CabinSource → Nat | .probe => 0 | .outdoor => 1
def HeatState.code : HeatState → Nat
  | .off => 0 | .waiting => 1 | .queued => 2 | .heating => 3 | .paused => 4 | .keep => 5 | .faulted => 6
def GrantState.code : GrantState → Nat
  | .pendingClose => 0 | .confirming => 1 | .active => 2 | .releasing => 3 | .orphaned => 4
def Phase.code : Phase → Nat | .pausing => 0 | .baseline => 1 | .step => 2 | .ending => 3
def StepOutcome.code : StepOutcome → Nat
  | .overrange => 0 | .opened => 1 | .degraded => 2 | .pass => 3 | .overload => 4
def CheckOutcome.code : CheckOutcome → Nat | .pass => 0 | .fail => 1 | .aborted => 2 | .linkFail => 3
def AbortCause.code : AbortCause → Nat | .unplugged => 0 | .offline => 1 | .cancelled => 2 | .mode => 3
def LampStatus.code : LampStatus → Nat
  | .none => 0 | .queued => 1 | .checking => 2 | .pass => 3 | .fail => 4 | .aborted => 5 | .linkFail => 6
def Origin.code : Origin → Nat | .coach => 0 | .lamp => 1 | .heater => 2
def Severity.code : Severity → Nat | .blocking => 0 | .restrict => 1 | .advisory => 2 | .ignore => 3
def HeaterKind.code : HeaterKind → Nat | .noLoad => 0 | .overload => 1 | .stuck => 2
def ReadState.code : ReadState → Nat | .idle => 0 | .waiting => 1 | .reading => 2
def EntryState.code : EntryState → Nat
  | .scheduled => 0 | .called => 1 | .cleared => 2 | .departed => 3 | .unclearedExit => 4 | .missed => 5
  | .cancelled => 6
def ClearState.code : ClearState → Nat
  | .empty => 0 | .standing => 1 | .ready => 2 | .releasing => 3 | .cleared => 4 | .held => 5
/-- R198. -/
def Result.code : Result → Nat
  | .ok => 0x00 | .clamped => 0x01 | .badType => 0x10 | .badLength => 0x11 | .badValue => 0x12 | .wrongMode => 0x13
  | .wrongState => 0x14 | .notFound => 0x15 | .full => 0x16 | .already => 0x17 | .offline => 0x18

/-- The severity a code names. -/
def severityOf : Nat → Option Severity
  | 0 => some .blocking | 1 => some .restrict | 2 => some .advisory | 3 => some .ignore | _ => none

/-! ### Control link frames (R196, 10.7) -/

/-- One bit of the CRC: polynomial 0x1021, not reflected. -/
def crcBit (c : BitVec 16) (bit : Bool) : BitVec 16 :=
  if c.msb != bit then (c <<< 1) ^^^ 0x1021 else c <<< 1

/-- One byte of the CRC, most significant bit first. -/
def crcByte (c : BitVec 16) (b : Byte) : BitVec 16 :=
  [7, 6, 5, 4, 3, 2, 1, 0].foldl (fun c i => crcBit c (b.getLsbD i)) c

/-- Section 10.7: the CRC, with initial value 0xFFFF and no inversion. -/
def crc16 (bs : List Byte) : BitVec 16 := bs.foldl crcByte 0xFFFF#16

/-- LEN, TYPE, TAG and payload: what the CRC is taken over. -/
def Frame.body (f : Frame) : List Byte := u8 (2 + f.payload.length) ++ [f.type, f.tag] ++ f.payload

/-- The characters of a frame on the link. -/
def Frame.wire (f : Frame) : List Byte := 0x7E#8 :: (f.body ++ u16 (crc16 f.body).toNat)

/-! ### The pedestal bus (10.7) -/

/-- The address byte of a transaction: 0 for the broadcast. -/
def addressByte : Option Bay → Byte
  | none => 0
  | some b => BitVec.ofNat 8 (bayNum b)

/-- The output byte. -/
def Image.byte (i : Image) : Byte :=
  BitVec.ofNat 8 ((if i.closed then 128 else 0) + (if i.supplyOn then 64 else 0) + i.aspect.code)

/-- The coach message bytes. -/
def CoachMsg.bytes : CoachMsg → List Byte
  | .ident => [0x01]
  | .allOff => [0x02]
  | .light g => [0x03, BitVec.ofNat 8 g]
  | .readFaults p => [0x04, BitVec.ofNat 8 p]

/-- The order byte and the data bytes the BD32 sends. -/
def Order.bytes : Order → List Byte
  | .statusRead high => [0x51, if high then 0x01 else 0x00]
  | .setOutputs i => [0x5A, i.byte]
  | .relaySend m => 0x63#8 :: (u8 m.length ++ m)
  | .relayFetch _ => [0x6C]
  | .sampleBlock n => 0x75#8 :: u8 n

/-- The bytes a transaction puts on the wires, from its address byte. -/
def Trans.sent (t : Trans) : List Byte := addressByte t.bay :: t.order.bytes

/-- The aspect that bits 1 and 0 of a report's first byte spell. -/
def aspectOf (b : Byte) : Aspect :=
  match b.getLsbD 1, b.getLsbD 0 with
  | false, false => .dark
  | false, true => .red
  | true, false => .amber
  | true, true => .green

/-- A decoded pedestal status report. -/
structure StatusReport where
  plugged : Bool
  occupied : Bool
  closed : Bool
  pressed : Bool
  supplyOn : Bool
  high : Bool
  aspect : Aspect
  relayState : Nat
  replyLength : Nat
  current : Nat
  cabin : Option Int
deriving DecidableEq, Repr

/-- R57: the cabin temperature written for a reported value. -/
def cabinOf (h l : Byte) : Option Int :=
  if word h l = 0x7FFF then none else some (max (-400) (min 850 (swd h l)))

/-- Section 10.7: the eight bytes of a status report, whose check byte the PBC has judged. -/
def statusOf : List Byte → Option StatusReport
  | [f, rs, rl, ch, cl, th, tl, _] =>
    some ⟨f.getLsbD 7, f.getLsbD 6, f.getLsbD 5, f.getLsbD 4, f.getLsbD 3, f.getLsbD 2, aspectOf f, rs.toNat, rl.toNat,
      word ch cl % 4096, cabinOf th tl⟩
  | _ => none

/-- Section 10.7: the samples of a SAMPLE BLOCK, whose last byte is the check byte. -/
def samplesOf : List Byte → List Nat
  | h :: l :: rest => word h l % 4096 :: samplesOf rest
  | _ => []

/-! ### Coach replies (R74) -/

/-- One entry of a READ FAULTS reply. -/
structure PageEntry where
  code : Nat
  active : Bool
  count : Nat
deriving DecidableEq, Repr

/-- The decoded content of a reply of status OK. -/
inductive CoachReply where
  | ident (cls : Nat) (fleet : List Byte)
  | done
  | faults (more : Bool) (entries : List PageEntry)
deriving DecidableEq, Repr

/-- R74: a page of `n` entries; none when a value is outside its range or bytes are missing. The flags above bit 0 are not
looked at (DESIGN CHOICE, log 44). -/
def pageEntries : Nat → List Byte → Option (List PageEntry)
  | 0, _ => some []
  | n + 1, h :: l :: f :: c :: rest =>
    if 1 ≤ word h l ∧ 1 ≤ c.toNat then (pageEntries n rest).map (⟨word h l, f.getLsbD 0, c.toNat⟩ :: ·) else none
  | _ + 1, _ => none

/-- R74: the content after status OK, judged by the form of its message; bytes beyond the needed ones are ignored, and so are
the flags of a page above bit 0 (DESIGN CHOICE, log 44). -/
def replyContent : CoachMsg → List Byte → Option CoachReply
  | .ident, c :: rest =>
    if 1 ≤ c.toNat ∧ c.toNat ≤ 8 ∧ 6 ≤ rest.length ∧ (rest.take 6).all isChar then some (.ident c.toNat (rest.take 6))
    else none
  | .ident, [] => none
  | .allOff, _ => some .done
  | .light _, _ => some .done
  | .readFaults _, f :: n :: rest =>
    if n.toNat ≤ 8 then (pageEntries n.toNat rest).map (.faults (f.getLsbD 0)) else none
  | .readFaults _, _ => none

/-- R70, R74: the reply to a message; none stands for LINK_REFUSED. -/
def decodeReply (m : CoachMsg) : List Byte → Option CoachReply
  | s :: rest => if s = 0 then replyContent m rest else none
  | [] => none

end Sys2Proof.Machine
end

