-- ==== Sys2Proof/Machine/Relay.lean ====
section
/-! DEFINITION. The Coach Link Relay's slots: asking, clearing and cancelling a relay (R65 to R69, R73). Delivering an
outcome is in Identity.lean. -/

namespace Sys2Proof.Machine

/-- The outcome a requester receives for its relay (section 4.2). -/
inductive RelayEnd where
  | success (reply : CoachReply)
  | linkTimeout
  | linkRefused
  | busFail
  | unplugged
deriving DecidableEq, Repr

/-- R66: what a requester is told when it asks. `failed` is a relay taken and ended in the same event (R72), `badValue` the
refusal of an argument out of range (R74). -/
inductive AskResult where | taken | busy | failed | badValue
deriving DecidableEq, Repr

/-- R74: the arguments a message may have. -/
def CoachMsg.inRange : CoachMsg → Bool
  | .ident | .allOff => true
  | .light group => decide (1 ≤ group ∧ group ≤ 63)
  | .readFaults page => decide (page ≤ 15)

/-- R65: class 2 for the LCE, class 3 for the CLR and the FRS. -/
def Requester.busClass : Requester → BusClass
  | .lce => .two
  | .clr | .frs => .three

/-- R65: a requester joins the waiting requesters. -/
def Waiting.add (w : Waiting) : Requester → Waiting
  | .clr => { w with clr := true }
  | .frs => { w with frs := true }
  | .lce => { w with lce := true }

/-- R66, R71 to R73: the slot becomes IDLE; the abandoned mark stays, and the waiting requesters until their slot free
events. -/
def slotEnd (b : Bay) : State → State :=
  updSlot b fun t =>
    { Slot.atReset with abandoned := t.abandoned, waiting := t.waiting, ended := t.ended + 1 }

/-- R37, R67 to R69: hands the PBC a request of the slot in the relay's class; none when the pedestal is OFFLINE and the
request is ended at once. -/
def requestRelay (b : Bay) (o : Order) (s : State) : Option State :=
  if isOffline b s then none else some (enqueue (s.clr.slots[b].busClass.getD .three) (.relay b) b o s)

/-- R66, R67: makes the slot's RELAY SEND request. -/
def requestSend (b : Bay) (s : State) : State × AskResult :=
  match requestRelay b (.relaySend ((s.clr.slots[b].message.map CoachMsg.bytes).getD [])) s with
  | some s => (s, .taken)
  | none => (slotEnd b s, .failed)

/-- R66: a requester asks for a relay. R74: an argument out of range is refused, and the slot stays as it was. -/
def relayAsk (b : Bay) (who : Requester) (m : CoachMsg) (s : State) : State × AskResult :=
  if !m.inRange then (s, .badValue)
  else if s.clr.slots[b].state ≠ .idle then (updSlot b (fun t => { t with waiting := t.waiting.add who }) s, .busy)
  else
    let s := updSlot b (fun t => { t with
      state := .sending, requester := some who, message := some m, busClass := some who.busClass }) s
    if s.clr.slots[b].abandoned then (s, .taken) else requestSend b s

/-- R69: makes the slot FETCHING with clearing set and requests a fetch of no bytes, once a poll on the bus has ended.
None when the request is ended at once with OFFLINE, which ends the clearing fetch. -/
def clearingFetch (b : Bay) (s : State) : Option State :=
  let s := updSlot b (fun t => { t with state := .fetching, clearing := true, pollDue := none })
    (withdraw (.relay b) s)
  if isOnBus (.relay b) s then some (updSlot b (fun t => { t with pollDiscard := true }) s)
  else requestRelay b (.relayFetch 0) s

/-- R71, R72: the request that waits is withdrawn, a transaction on the bus is abandoned, and the slot becomes IDLE. -/
def slotDrop (b : Bay) (s : State) : State :=
  slotEnd b (updSlot b (fun t => { t with abandoned := isOnBus (.relay b) s }) (withdraw (.relay b) s))

/-- R73: a requester cancels its relay. -/
def relayCancel (b : Bay) (who : Requester) (s : State) : State :=
  let t := s.clr.slots[b]
  let cancelled := updSlot b (fun t => { t with cancelled := true }) s
  if t.requester ≠ some who then s
  else
    match t.state with
    | .idle => s
    | .sending =>
      if isWaiting (.relay b) s || t.abandoned then slotEnd b (withdraw (.relay b) s) else cancelled
    | .awaiting => (clearingFetch b cancelled).getD (slotEnd b cancelled)
    | .fetching => cancelled

end Sys2Proof.Machine
end

