-- ==== Sys2Proof/Machine/Faults.lean ====
section
/-! DEFINITION. The Fault Record Store: the pool and the chains, the coach fault read, LAMP and HEATER records, waivers,
freeing, and what the DPC is told (chapter 8). -/

namespace Sys2Proof.Machine

/-! ### The severity table (R154) -/

/-- R154: the first entry that holds the code; ADVISORY when none does. -/
def lookupSeverity (table : List SevEntry) (code : Nat) : Severity :=
  match table.find? fun e => e.low ≤ code && code ≤ e.high with
  | some e => e.severity
  | none => .advisory

/-- R151: BLOCKING above RESTRICT above ADVISORY. -/
def Severity.rank : Severity → Nat | .blocking => 3 | .restrict => 2 | .advisory => 1 | .ignore => 0

/-! ### Records (R150, R161) -/

/-- R162: the cause a dropped record adds. -/
def Causes.withOrigin (c : Causes) (o : Origin) (on : Bool) : Causes :=
  match o with
  | .coach => { c with read := on }
  | .lamp => { c with lamp := on }
  | .heater => { c with heater := on }

/-- R161: the record a new one of severity `v` replaces. -/
def victim (v : Severity) (chain : List FaultRec) : Option FaultRec :=
  match v with
  | .blocking => (chain.find? (·.severity == .advisory)).or (chain.find? (·.severity == .restrict))
  | .restrict => chain.find? (·.severity == .advisory)
  | .advisory | .ignore => none

/-- R150: keeps the records of a chain that meet a condition; the others return to the free records. -/
def keepRecords (b : Bay) (p : FaultRec → Bool) (s : State) : State :=
  let c := s.frs.bays[b].chain
  { s with frs := { s.frs with
      free := s.frs.free + (c.length - (c.filter p).length)
      bays := upd s.frs.bays b fun f => { f with chain := f.chain.filter p } } }

/-- R161: inserts a new record; the second part says whether it was stored. -/
def insertRecord (b : Bay) (r : FaultRec) (s : State) : State × Bool :=
  let c := s.frs.bays[b].chain
  if c.length < Config.chainCapacity ∧ 0 < s.frs.free then
    ({ s with frs := { s.frs with
        free := s.frs.free - 1
        bays := upd s.frs.bays b fun f => { f with chain := f.chain ++ [r] } } }, true)
  else
    match victim r.severity c with
    | some v => (updFault b (fun f => { f with chain := f.chain.erase v ++ [r] }) s, true)
    | none =>
      (updFault b (fun f => { f with
        dropped := min 255 (f.dropped + 1), causes := f.causes.withOrigin r.origin true }) s, false)

/-- A record of a code and origin. -/
def FaultRec.isOf (r : FaultRec) (code : Nat) (o : Origin) : Bool := r.code == code && r.origin == o

/-! ### What the DPC is told (R168) -/

/-- R168: an unwaived record of a severity that had no such record of its code and origin before. -/
def newUnwaived (v : Severity) (old new : List FaultRec) : Bool :=
  new.any fun r => r.severity == v && !r.waived &&
    !(old.any fun o => o.isOf r.code r.origin && o.severity == v && !o.waived)

/-- R168: the event brought about something that gives the DPC a fault event. -/
def faultEvent (b : Bay) (old : FaultBay) (s : State) : Bool :=
  let new := s.frs.bays[b]
  newUnwaived .blocking old.chain new.chain ||
    (newUnwaived .restrict old.chain new.chain && !restrictOk b s) ||
    (new.causes.any && !old.causes.any) || (new.stale && !old.stale) || (!new.complete && old.complete)

/-- R168: the event changed the fault group, the complete-read mark or the incomplete causes. Items that are rewritten with
the values they had are not changed (DESIGN CHOICE, log 51); a freeing, which is always a change by R168, does not ask this. -/
def faultChanged (old new : FaultBay) : Bool :=
  old.chain != new.chain || old.dropped != new.dropped || old.causes != new.causes || old.stale != new.stale ||
    old.lastRead != new.lastRead || old.complete != new.complete

/-- R168: the fault change after an event of the FRS, with its notice and, where the event brought one about, the fault
event. -/
def faultChange (b : Bay) (old : FaultBay) (s : State) : State :=
  let s := raiseBay .faultsChanged b s
  decideBay b (if faultEvent b old s then holdArises .fault b s else s)

/-- R168: one event of the FRS for a bay, with what it tells the CLU and the DPC when the whole of it has been applied. -/
def frsEvent (b : Bay) (f : State → State) (s : State) : State :=
  let old := s.frs.bays[b]
  let s := f s
  if faultChanged old s.frs.bays[b] then faultChange b old s else s

/-! ### The coach fault read (R155 to R160) -/

/-- R157: merges a report into a COACH record. -/
def FaultRec.mergeCoach (r : FaultRec) (e : PageEntry) (v : Severity) (minute : Nat) : FaultRec :=
  { r with
    active := e.active
    last := minute
    count := max r.count e.count
    severity := v
    waived := r.waived && decide (e.count ≤ r.count) && decide (v.rank ≤ r.severity.rank) }

/-- R157: one entry of a page. -/
def mergeEntry (b : Bay) (e : PageEntry) (s : State) : State :=
  let v := lookupSeverity s.frs.table e.code
  if v = .ignore then s
  else
    let s := updFault b (fun f => { f with
      reported := if f.reported.contains e.code then f.reported else f.reported ++ [e.code] }) s
    if s.frs.bays[b].chain.any (·.isOf e.code .coach) then
      updFault b (fun f => { f with
        chain := f.chain.map fun r => if r.isOf e.code .coach then r.mergeCoach e v s.minute else r }) s
    else
      (insertRecord b ⟨e.code, .coach, v, e.active, e.count, s.minute, s.minute, false, .coach⟩ s).1

/-- R158: a read that is complete. -/
def completeRead (b : Bay) (s : State) : State :=
  let s := keepRecords b (fun r => r.origin != .coach || s.frs.bays[b].reported.contains r.code) s
  updFault b (fun f => { f with
    causes := { f.causes with read := !(f.reported.all fun c => f.chain.any (·.isOf c .coach)) }
    stale := false
    complete := true
    lastRead := some s.clk.tod
    readState := .idle
    endOfRead := some s.clk.ticks }) s

/-- R159: a read that stops. -/
def stopRead (b : Bay) (s : State) : State :=
  updFault b (fun f => { f with stale := true, readState := .idle, endOfRead := some s.clk.ticks }) s

/-- R159: a read whose page 15 still says MORE. -/
def overlongRead (b : Bay) (s : State) : State :=
  updFault b (fun f => { f with
    stale := false, causes := { f.causes with read := true }, readState := .idle, endOfRead := some s.clk.ticks }) s

/-- R156: asks the CLR for the read page, which is never out of range (R152): a refusal of R74 starts no relay. -/
def askPage (b : Bay) (s : State) : State :=
  let r := relayAsk b .frs (.readFaults s.frs.bays[b].page) s
  match r.2 with
  | .taken => updFault b (fun f => { f with readState := .reading }) r.1
  | .busy => updFault b (fun f => { f with readState := .waiting }) r.1
  | .failed => stopRead b r.1
  | .badValue => r.1

/-- R155: starts a coach fault read. An identification that succeeds while a read is WAITING starts it anew (DESIGN CHOICE,
log 46). -/
def startRead (b : Bay) : State → State :=
  frsEvent b fun s => askPage b (updFault b (fun f => { f with reported := [], page := 0 }) s)

/-- R156: the outcome of the relay of the read page. -/
def readOutcome (b : Bay) (r : RelayEnd) : State → State :=
  frsEvent b fun s =>
    match r with
    | .success (.faults more entries) =>
      let s := entries.foldl (fun s e => mergeEntry b e s) s
      if !more then completeRead b s
      else if s.frs.bays[b].page < 15 then askPage b (updFault b (fun f => { f with page := f.page + 1 }) s)
      else overlongRead b s
    | _ => stopRead b s

/-- R156: the slot free event of a read that waits. -/
def readSlotFree (b : Bay) (s : State) : State :=
  if s.frs.bays[b].readState = .waiting then frsEvent b (askPage b) s else s

/-- R155, R166: ends a running read, cancelling its relay. -/
def endRead (b : Bay) (s : State) : State :=
  match s.frs.bays[b].readState with
  | .idle => s
  | .waiting => stopRead b s
  | .reading => stopRead b (relayCancel b .frs s)

/-- R155: the start of an identification of the bay. -/
def frsIdentStart (b : Bay) : State → State :=
  frsEvent b fun s => updFault b (fun f => { f with complete := false }) (endRead b s)

/-- R160: the bay's refresh is due. -/
def refreshDue (b : Bay) (s : State) : Bool :=
  let f := s.frs.bays[b]
  s.params.refresh != 0 &&
    (match f.endOfRead with | some t => decide (s.clk.ticks - t ≥ 60 * s.params.refresh) | none => false) &&
    s.scs.reports[b].plugged && f.readState == .idle

/-- R160: the FRS's part of a minute tick. -/
def frsMinute : State → State := forBays fun b s => if refreshDue b s then startRead b s else s

/-! ### LAMP and HEATER records (R163, R145, R124) -/

/-- R151: the delta of a LAMP record, 0 to 4094; for a step's delta above that range a free value in it (DESIGN CHOICE,
log 48). -/
def recordDelta (delta : Nat) : Nat := if delta ≤ 4094 then delta else (Config.wideDelta delta).val

/-- R145: the record of a lamp step that did not pass. -/
def lampRecord (minute : Nat) (e : StepEntry) : FaultRec :=
  ⟨0xF100 + e.group, .lamp, if e.critical then .blocking else .advisory, true, 1, minute, minute, false,
    .lamp e.group (recordDelta e.delta)⟩

/-- R163: inserts records in order; the second part says whether all were stored. One that a later one evicts has been
stored (DESIGN CHOICE, log 47). -/
def insertAll (b : Bay) : List FaultRec → State → State × Bool
  | [], s => (s, true)
  | r :: rs, s =>
    let a := insertRecord b r s
    let z := insertAll b rs a.1
    (z.1, a.2 && z.2)

/-- R163, R145: a LAMP replacement from the step entries of a completed check. -/
def lampReplacement (b : Bay) (entries : List StepEntry) : State → State :=
  frsEvent b fun s =>
    let r := insertAll b ((entries.filter (·.outcome != .pass)).map (lampRecord s.minute))
      (keepRecords b (·.origin != .lamp) s)
    if r.2 then updFault b (fun f => { f with causes := f.causes.withOrigin .lamp false }) r.1 else r.1

/-- R124. -/
def HeaterKind.faultCode : HeaterKind → Nat | .noLoad => 0xF201 | .overload => 0xF202 | .stuck => 0xF203

/-- R163: merges a second occurrence into a HEATER record. -/
def FaultRec.mergeHeater (r : FaultRec) (d : Detail) (minute : Nat) : FaultRec :=
  { r with count := min 255 (r.count + 1), active := true, last := minute, detail := d
           waived := r.waived && decide (255 ≤ r.count) }

/-- R163: a HEATER record from the PAL. -/
def heaterRecord (b : Bay) (k : HeaterKind) : State → State :=
  frsEvent b fun s =>
    let d := Detail.heater s.pal.bays[b].pmeas k
    if s.frs.bays[b].chain.any (·.isOf k.faultCode .heater) then
      updFault b (fun f => { f with
        chain := f.chain.map fun r => if r.isOf k.faultCode .heater then r.mergeHeater d s.minute else r }) s
    else (insertRecord b ⟨k.faultCode, .heater, .blocking, true, 1, s.minute, s.minute, false, d⟩ s).1

/-- R118, R119, R124: a heater fault that sets the fault block and releases the grant, after its record and the notice (DESIGN
CHOICE, log 14). -/
def heaterFault (b : Bay) (k : HeaterKind) (s : State) : State :=
  let s := raiseBay .heatFault b (heaterRecord b k s)
  allocationPass false (palRelease b (updPalBay b (fun p => { p with faultBlock := true }) s))

/-- R116, R124: a stuck contactor, recorded once in a grant's life. -/
def contactorStuck (b : Bay) (s : State) : State :=
  raiseBay .heatFault b (heaterRecord b .stuck (updGrant b (fun g => { g with stuckRecorded := true }) s))

/-- R115, R117 to R119: the PAL takes a report event. -/
def palReport (b : Bay) (s : State) : State :=
  let s := palCurrent b (palReadback b s)
  if overloaded b s && s.scs.reports[b].high then heaterFault b .overload s else s

/-- R118: the no-load limit. -/
def noLoad (b : Bay) (s : State) : State :=
  match grantOf b s with
  | some g =>
    if g.state = .confirming ∧ (∃ t ∈ g.closeAck, s.clk.ticks - t ≥ Config.contactorTicks) then
      heaterFault b .noLoad s
    else s
  | none => s

/-- R116: the stuck limit. -/
def stuckLimit (b : Bay) (s : State) : State :=
  match grantOf b s with
  | some g =>
    if g.state = .releasing ∧ g.stuckRecorded = false ∧
        (∃ t ∈ g.openAck, s.clk.ticks - t ≥ Config.contactorTicks) then contactorStuck b s
    else s
  | none => s

/-! ### Requests and freeing (R164 to R166) -/

/-- R164: removes every record of an origin and its cause; for HEATER the PAL is told. -/
def clearPart (b : Bay) (o : Origin) : State → State :=
  frsEvent b fun s =>
    let s := updFault b (fun f => { f with causes := f.causes.withOrigin o false }) (keepRecords b (·.origin != o) s)
    if o = .heater then palUnblock b s else s

/-- R165: waives every record of a code. -/
def waiveRecords (b : Bay) (code : Nat) : State → State :=
  frsEvent b <| updFault b fun f => { f with
    chain := f.chain.map fun r => if r.code == code then { r with waived := true } else r }

/-- R166: frees a bay's chain. R168 gives every freeing a fault change, also where the bay had nothing to free. -/
def frsFree (b : Bay) (s : State) : State :=
  let old := s.frs.bays[b]
  let s := keepRecords b (fun _ => false) (endRead b s)
  faultChange b old
    (palUnblock b (updFault b (fun f => { FaultBay.atReset with page := f.page, reported := f.reported }) s))

end Sys2Proof.Machine
end

