-- ==== Sys2Proof/Machine/Lamps.lean ====
section
/-! DEFINITION. The Lamp Check Engine: the lamp queue, the check contexts through their phases, aborts, results
(chapter 7). -/

namespace Sys2Proof.Machine

/-! ### Queue and contexts (R131 to R134) -/

/-- R133, R134: a free context, the one of the lowest number: the manual names none (DESIGN CHOICE, log 45). -/
def freeContext (s : State) : Option CtxId := allCtxs.find? fun c => (s.lce.ctxs[c]).isNone

/-- R131: a bay leaves the lamp queue. -/
def leaveQueue (b : Bay) (s : State) : State :=
  { s with lce := { s.lce with queue := s.lce.queue.filter (· != b) } }

/-- R134: eligible for take-up. -/
def eligible (b : Bay) (s : State) : Bool :=
  s.scs.reports[b].plugged && answering b s && s.clu.mode == .run && !(level b s == .urgent && hasLiveGrant b s)

/-- R134, R129: the plan a check of the bay would test. -/
def bayPlan (b : Bay) (s : State) : List LampStep := lampPlan (effClass b s) s

/-- R133, R134: the record of a context at take-up. -/
def newCtx (b : Bay) (r : ClassRec) (s : State) : Ctx where
  bay := b
  phase := .pausing
  stage := .command
  plan := bayPlan b s
  cls := effClass b s
  settle := r.settle
  block := r.block
  stepIndex := 0
  retryUsed := false
  baseline := none
  entries := []
  outcome := none
  cause := none
  request := .none
  awaitsSlot := false
  settleDue := none

/-- R134, R135: take-up, and the pause asked on entering PAUSING. -/
def takeUp (c : CtxId) (b : Bay) (s : State) : State :=
  match effRec b s with
  | some r => palPause b (updCtx c (some (newCtx b r s)) (leaveQueue b s))
  | none => s

/-- R134: one examination of the queue. A bay of class 0 or with an empty plan is withdrawn in every mode, although R148 says
that the queue keeps its bays outside RUN (DEDUCED, log 39). -/
def examineWalk : List Bay → State → State
  | [], s => s
  | b :: bs, s =>
    match freeContext s with
    | none => s
    | some c =>
      if bayPlan b s = [] then examineWalk bs (leaveQueue b s)
      else if eligible b s then examineWalk bs (takeUp c b s)
      else examineWalk bs s

/-- R134. -/
def examineQueue (s : State) : State := examineWalk s.lce.queue s

/-- R134, R140: a context becomes free. -/
def freeCtx (c : CtxId) (s : State) : State := examineQueue (updCtx c none s)

/-! ### Ending a check (R140, R141, R144) -/

/-- R140: the overall outcome of a completed check. -/
def overall (entries : List StepEntry) : CheckOutcome :=
  if entries.any fun e => e.critical && e.outcome != .pass then .fail else .pass

/-- R144: the result a context writes. -/
def resultOf (x : Ctx) (o : CheckOutcome) (cause : Option AbortCause) (s : State) : LampResult :=
  ⟨s.clk.tod, s.clk.ticks, o, cause, x.cls, x.baseline, x.entries⟩

/-- R140 step 5: asks for the final ALL OFF, or frees the context. -/
def finalAllOff (c : CtxId) (x : Ctx) (s : State) : State :=
  if s.scs.reports[x.bay].plugged && !isOffline x.bay s then
    let r := relayAsk x.bay .lce .allOff s
    match r.2 with
    | .taken => updCtx c (some { x with request := .relay }) r.1
    | .busy => updCtx c (some { x with awaitsSlot := true }) r.1
    | .failed => freeCtx c r.1
    | .badValue => r.1
  else freeCtx c s

/-- R140: enters ENDING. -/
def enterEnding (c : CtxId) (x : Ctx) (o : CheckOutcome) (cause : Option AbortCause) (s : State) : State :=
  let b := x.bay
  let x' := { x with
    phase := .ending, stage := .command, stepIndex := 0, outcome := some o, cause := cause, request := .none
    awaitsSlot := false, settleDue := none }
  let s := updCtx c (some x') s
  let s := { s with lce := { s.lce with results := upd s.lce.results b fun _ => some (resultOf x o cause s) } }
  let s := if o = .pass ∨ o = .fail then lampReplacement b x.entries s else s
  let s := decideBay b (raiseBay .lampDone b s)
  finalAllOff c x' (palPauseEnd b s)

/-- R140: a completed outcome. -/
def completeCheck (c : CtxId) (x : Ctx) (s : State) : State := enterEnding c x (overall x.entries) none s

/-- R141 step 2: deals with the request outstanding. -/
def dropRequest (c : CtxId) (x : Ctx) (s : State) : State :=
  match x.request with
  | .none => s
  | .relay => relayCancel x.bay .lce s
  | .sample =>
    if isWaiting (.lamp c) s then withdraw (.lamp c) s
    else if isOnBus (.lamp c) s then discardCurrent s
    else s

/-- R141: aborts a context in PAUSING, BASELINE or STEP. -/
def abortCtx (c : CtxId) (cause : AbortCause) (s : State) : State :=
  match s.lce.ctxs[c] with
  | some x => if x.phase = .ending then s else enterEnding c x .aborted (some cause) (dropRequest c x s)
  | none => s

/-- R140: an unplug or OFFLINE event while the final ALL OFF is outstanding frees the context. -/
def dropEnding (c : CtxId) (x : Ctx) (s : State) : State := freeCtx c (dropRequest c x s)

/-! ### The phases (R135 to R139) -/

/-- R136, R137: the message of the relay a stage asks for. -/
def ctxMessage (x : Ctx) : CoachMsg :=
  match x.phase, x.stage, x.plan[x.stepIndex - 1]? with
  | .step, .command, some p => .light p.group
  | _, _, _ => .allOff

/-- R136, R137: asks for the relay of the context's stage. A relay ended at once with OFFLINE is the abort of R139. A plan's
groups are in range (R130), so that R74 refuses none of these. -/
def lceAsk (c : CtxId) (x : Ctx) (s : State) : State :=
  let r := relayAsk x.bay .lce (ctxMessage x) s
  match r.2 with
  | .taken => updCtx c (some { x with request := .relay, awaitsSlot := false }) r.1
  | .busy => updCtx c (some { x with request := .none, awaitsSlot := true }) r.1
  | .failed => abortCtx c .offline (updCtx c (some { x with request := .none, awaitsSlot := false }) r.1)
  | .badValue => updCtx c (some { x with request := .none, awaitsSlot := false }) r.1

/-- R137: enters a step, or ENDING after the last one. -/
def enterStep (c : CtxId) (k : Nat) (x : Ctx) (s : State) : State :=
  if k ≤ x.plan.length then
    lceAsk c { x with phase := .step, stage := .command, stepIndex := k, retryUsed := false, request := .none } s
  else completeCheck c x s

/-- R139: the entries of the steps done before the step in hand (log 23). -/
def stepsDone (x : Ctx) : List StepEntry := x.entries.take (x.stepIndex - 1)

/-- R139: a failure of the baseline or of a step. -/
def ctxFailure (c : CtxId) (x : Ctx) (s : State) : State :=
  let x := { x with request := .none }
  let s := updCtx c (some x) s
  if !s.scs.reports[x.bay].plugged then abortCtx c .unplugged s
  else if isOffline x.bay s then abortCtx c .offline s
  else if x.retryUsed then enterEnding c { x with entries := stepsDone x } .linkFail none s
  else lceAsk c { x with retryUsed := true, stage := .command, entries := stepsDone x } s

/-- R136, R137: starts the settle time. -/
def startSettle (c : CtxId) (x : Ctx) (s : State) : State :=
  updCtx c (some { x with
    stage := if x.stage = .command then .settling else x.stage
    request := .none
    settleDue := some (s.clk.now + x.settle) }) s

/-- R136: requests SAMPLE BLOCK in class 2; the PBC ends it at once for an OFFLINE pedestal or a count outside 2 to 16
(R30, R37). -/
def requestSample (c : CtxId) (x : Ctx) (s : State) : State :=
  let x := { x with stage := .sampling, settleDue := none }
  if isOffline x.bay s || x.block < 2 || 16 < x.block then ctxFailure c x s
  else enqueue .two (.lamp c) x.bay (.sampleBlock x.block) (updCtx c (some { x with request := .sample }) s)

/-- R138: the rounded mean. -/
def average (samples : List Nat) : Nat := (samples.sum + samples.length / 2) / samples.length

/-- R138: the outcome of a step. -/
def stepOutcome (p : LampStep) (samples : List Nat) (delta : Nat) : StepOutcome :=
  if samples.any (· == 4095) then .overrange
  else if delta < p.min / 4 then .opened
  else if delta < p.min then .degraded
  else if delta ≤ p.max then .pass
  else .overload

/-- R144: the numeric baseline; a SATURATED one lights no step. -/
def Baseline.count : Baseline → Nat | .value n => n | .saturated => 4095

/-- R138: the baseline block. -/
def takeBaseline (c : CtxId) (x : Ctx) (samples : List Nat) (s : State) : State :=
  if samples.any (· == 4095) then
    completeCheck c { x with
      baseline := some .saturated, entries := x.plan.map fun p => ⟨p.group, p.critical, .overrange, 0⟩ } s
  else enterStep c 1 { x with baseline := some (.value (average samples)) } s

/-- R138: the block of the step in hand, then its CLEARING. The delta is recorded with every outcome. -/
def takeStep (c : CtxId) (x : Ctx) (samples : List Nat) (s : State) : State :=
  match x.plan[x.stepIndex - 1]? with
  | some p =>
    let delta := average samples - (match x.baseline with | some n => n.count | none => 0)
    lceAsk c { x with
      stage := .clearing
      entries := stepsDone x ++ [⟨p.group, p.critical, stepOutcome p samples delta, delta⟩] } s
  | none => completeCheck c x s

/-- R136 to R138: the outcome of a context's SAMPLE BLOCK. -/
def sampleOutcome (c : CtxId) (r : BusResult) (s : State) : State :=
  match s.lce.ctxs[c] with
  | some x =>
    if x.request = .sample then
      let x := { x with request := .none }
      match r with
      | .success bytes =>
        if x.phase = .baseline then takeBaseline c x (samplesOf bytes) s else takeStep c x (samplesOf bytes) s
      | .failure _ => ctxFailure c x s
    else s
  | none => s

/-- R136, R137, R139 to R142: the outcome of a context's relay. -/
def lampRelayEnd (c : CtxId) (r : RelayEnd) (s : State) : State :=
  match s.lce.ctxs[c] with
  | some x =>
    if x.request = .relay then
      let x := { x with request := .none }
      if x.phase = .ending then freeCtx c s
      else
        match r with
        | .success _ => startSettle c x s
        | .unplugged => abortCtx c .unplugged (updCtx c (some x) s)
        | .linkTimeout | .linkRefused | .busFail => ctxFailure c x s
    else s
  | none => s

/-- R136, R137: a context's settle time has passed. -/
def settlePassed (c : CtxId) (s : State) : State :=
  match s.lce.ctxs[c] with
  | some x =>
    match x.settleDue with
    | some t =>
      let s := elapseTo t s
      if x.stage = .clearing then enterStep c (x.stepIndex + 1) { x with settleDue := none } s
      else requestSample c x s
    | none => s
  | none => s

/-! ### What the LCE does on its events -/

/-- Does `f` on the context of a bay, if it has one. -/
def withCtx (b : Bay) (f : CtxId → Ctx → State → State) (s : State) : State :=
  match ctxOf b s with
  | some c => match s.lce.ctxs[c] with | some x => f c x s | none => s
  | none => s

/-- R135: a report event ends PAUSING. -/
def lampReport (b : Bay) : State → State :=
  withCtx b fun c x s =>
    let off : Bool := match grantOf b s with
      | none => true
      | some g => g.state == .releasing && g.openOutcome == .acknowledged
    if x.phase = .pausing ∧ s.scs.reports[b].closed = false ∧ off = true then
      lceAsk c { x with phase := .baseline, stage := .command } s
    else s

/-- R139, R140: the slot free event. -/
def lampSlotFree (b : Bay) : State → State :=
  withCtx b fun c x s =>
    if x.awaitsSlot then
      if x.phase = .ending then finalAllOff c { x with awaitsSlot := false } s else lceAsk c x s
    else s

/-- R140, R141: an unplug or OFFLINE event of the bay. -/
def lampLost (b : Bay) (cause : AbortCause) : State → State :=
  withCtx b fun c x s => if x.phase = .ending then dropEnding c x s else abortCtx c cause s

/-- R141, R148: the mode leaves RUN. The contexts are aborted in the order of their numbers: the manual gives none (DESIGN
CHOICE, log 45). -/
def lampStop (s : State) : State := allCtxs.foldl (fun s c => abortCtx c .mode s) s

/-- R131: the bay is in the lamp queue or in a context. -/
def inLampWork (b : Bay) (s : State) : Bool := s.lce.queue.contains b || (ctxOf b s).isSome

/-- R132: a check asked for by START LAMP CHECK or by an identification. -/
def queueCheck (b : Bay) (s : State) : State × Result :=
  if inLampWork b s then (s, .already)
  else if !s.scs.reports[b].plugged || bayPlan b s = [] then (s, .wrongState)
  else (examineQueue { s with lce := { s.lce with queue := s.lce.queue ++ [b] } }, .ok)

/-- R141: the bay is in a context in PAUSING, BASELINE or STEP. -/
def lampAbortable (b : Bay) (s : State) : Bool :=
  match (ctxOf b s).bind (s.lce.ctxs[·]) with
  | some x => x.phase != .ending
  | none => false

/-- R143. A bay that is in no queue and no context changes nothing. -/
def cancelCheck (b : Bay) (s : State) : State × Result :=
  if s.lce.queue.contains b then (leaveQueue b s, .ok)
  else
    match ctxOf b s with
    | some c => (abortCtx c .cancelled s, .ok)
    | none => (s, .wrongState)

/-- R144, R147: discards the bay's result and clears its waiver; each is a lamp change. -/
def lampDiscard (b : Bay) (s : State) : State :=
  if s.lce.results[b].isSome || s.lce.waivers[b] then
    decideBay b { s with lce := { s.lce with
      results := upd s.lce.results b fun _ => none, waivers := upd s.lce.waivers b fun _ => false } }
  else s

/-- R147: sets the lamp waiver. -/
def setLampWaiver (b : Bay) (s : State) : State :=
  if s.lce.waivers[b] then s
  else decideBay b { s with lce := { s.lce with waivers := upd s.lce.waivers b fun _ => true } }

end Sys2Proof.Machine
end

