-- ==== Sys2Proof/Machine/Identity.lean ====
section
/-! DEFINITION. The rest of the Coach Link Relay: identification (R75 to R79), delivering a relay's outcome (R65, R70), the
slot free event (R66), and the ends of a relay on unplug and OFFLINE (R71, R72). -/

namespace Sys2Proof.Machine

/-! ### Class changes (R10, R76) -/

/-- R10, R76: the HPL and then the PAL act on a class change of a bay; the manual names both and gives no order (DESIGN
CHOICE, log 14). -/
def classChanged (b : Bay) (s : State) : State := palClassChange b (planBay b s)

/-- R76 step 5: a class change, when the effective class differs from what it was. -/
def classChangeFrom (old : Nat) (b : Bay) (s : State) : State :=
  if effClass b s = old then s else classChanged b s

/-! ### Identification (R75 to R79) -/

/-- R78: an identification that fails. -/
def identFail (b : Bay) (s : State) : State :=
  let old := effClass b s
  classChangeFrom old b (raiseBay .identified b (updIdent b (fun _ => ⟨none, 0, .failed⟩) s))

/-- R75: asks the IDENT relay. -/
def askIdent (b : Bay) (s : State) : State :=
  let r := relayAsk b .clr .ident s
  match r.2 with
  | .taken => updIdent b (fun i => { i with state := .running }) r.1
  | .busy => updIdent b (fun i => { i with state := .waiting }) r.1
  | .failed => identFail b r.1
  | .badValue => r.1

/-- An identification is WAITING or RUNNING. -/
def IdentState.busy : IdentState → Bool
  | .waiting | .running => true
  | .none | .done | .failed => false

/-- R75, R155: starts an identification, unless one is WAITING or RUNNING. -/
def identStart (b : Bay) (s : State) : State :=
  if s.clr.idents[b].state.busy then s else askIdent b (frsIdentStart b s)

/-- R77: the new-coach event, in the order FRS, LCE, DPC (DESIGN CHOICE, log 14). -/
def newCoach (b : Bay) (s : State) : State :=
  decideBay b (updDpc b (fun d => { d with heatWaiver := false }) (lampDiscard b (frsFree b s)))

/-- R76: the IDENT relay succeeds. -/
def identSuccess (b : Bay) (cls : Nat) (fleet : List Byte) (s : State) : State :=
  let old := effClass b s
  let isNew := s.clr.idents[b].fleet != some fleet
  let s := updIdent b (fun _ => ⟨some fleet, cls, .done⟩) s
  let s := if isNew then newCoach b s else s
  let s := startRead b (classChangeFrom old b (raiseBay .identified b s))
  if s.params.autoCheck then (queueCheck b s).1 else s

/-- R79: the bay has become EMPTY. -/
def identityClear (b : Bay) (s : State) : State :=
  let old := effClass b s
  let s := updIdent b (fun i => ⟨none, 0, if i.state.busy then i.state else .none⟩) s
  let s := classChangeFrom old b s
  if s.scs.reports[b].plugged then identStart b s else s

/-! ### Delivering an outcome (R65, R70) -/

/-- The outcome of a relay reaches the CLR's own identification. -/
def identOutcome (b : Bay) (r : RelayEnd) (s : State) : State :=
  match r with
  | .success (.ident c fleet) => identSuccess b c fleet s
  | .unplugged => updIdent b (fun i => { i with state := .none }) s
  | _ => identFail b s

/-- R65: delivers a relay's outcome to the block that asked for it. -/
def deliver (b : Bay) (who : Requester) (r : RelayEnd) (s : State) : State :=
  match who with
  | .clr => identOutcome b r s
  | .frs => if s.frs.bays[b].readState = .reading then readOutcome b r s else s
  | .lce => withCtx b (fun c _ s => lampRelayEnd c r s) s

/-- The slot becomes IDLE and its relay's outcome is delivered, unless the requester has cancelled it (R73). -/
def relayFinish (b : Bay) (r : RelayEnd) (s : State) : State :=
  let t := s.clr.slots[b]
  match t.requester, t.cancelled with
  | some who, false => deliver b who r (slotEnd b s)
  | _, _ => slotEnd b s

/-- R71, R72: the coach or the pedestal is lost and the relay ends. -/
def relayLost (b : Bay) (r : RelayEnd) (s : State) : State :=
  let t := s.clr.slots[b]
  if t.state = .idle then s
  else
    match t.requester, t.cancelled with
    | some who, false => deliver b who (if t.clearing then .linkTimeout else r) (slotDrop b s)
    | _, _ => slotDrop b s

/-! ### The slot free event (R66) -/

/-- R75: the slot free event of an identification that waits. -/
def identSlotFree (b : Bay) (s : State) : State :=
  if s.clr.idents[b].state = .waiting then askIdent b s else s

/-- R66: a slot that has become IDLE since `old` sends its waiting requesters the slot free events in the order CLR, FRS,
LCE, also when it has been taken again. They come last in the event that freed the slot (DESIGN CHOICE, log 12). -/
def slotFree (b : Bay) (old s : State) : State :=
  let t := s.clr.slots[b]
  if t.ended ≠ old.clr.slots[b].ended then
    let s := updSlot b (fun t => { t with waiting := ⟨false, false, false⟩ }) s
    let s := if t.waiting.clr then identSlotFree b s else s
    let s := if t.waiting.frs then readSlotFree b s else s
    if t.waiting.lce then lampSlotFree b s else s
  else s

/-- R66: the slot free events of every bay. -/
def slotFreeAll (old : State) : State → State := forBays fun b => slotFree b old

/-! ### The relay sequence (R67 to R70) -/

/-- R68: requests the next poll 50 ms from now. -/
def nextPoll (b : Bay) (s : State) : State :=
  updSlot b (fun t => { t with pollDue := some (s.clk.now + Config.pollMs) }) s

/-- R66: the outcome of an abandoned transaction is discarded, and a relay that waits makes its request. -/
def abandonedEnd (b : Bay) (s : State) : State :=
  let s := updSlot b (fun t => { t with abandoned := false }) s
  if s.clr.slots[b].state = .sending then
    let r := requestSend b s
    match r.2 with
    | .failed => relayFinish b .busFail s
    | _ => r.1
  else s

/-- R69: gives up on the pedestal; a clearing fetch ended at once ends the relay. -/
def giveUp (b : Bay) (s : State) : State := (clearingFetch b s).getD (relayFinish b .linkTimeout s)

/-- R67: the outcome of the RELAY SEND. A relay cancelled while it was on the bus is cleared (R73). -/
def sendOutcome (b : Bay) (r : BusResult) (s : State) : State :=
  match r with
  | .success _ =>
    let s := updSlot b (fun t => { t with state := .awaiting, sendAck := some s.clk.now }) s
    if s.clr.slots[b].cancelled then giveUp b s else nextPoll b s
  | .failure _ => relayFinish b .busFail s

/-- R68: the outcome of a poll. A report with a relay state above 3 or a reply length above 64 is BUS_FAIL whatever the
other field says, though a row of the table may match that one (DESIGN CHOICE, log 37). -/
def pollOutcome (b : Bay) (r : BusResult) (s : State) : State :=
  match r with
  | .failure _ => relayFinish b .busFail s
  | .success bytes =>
    match statusOf bytes with
    | none => relayFinish b .busFail s
    | some p =>
      if p.relayState > 3 ∨ p.replyLength > 64 then relayFinish b .busFail s
      else if p.relayState = 1 then nextPoll b s
      else if p.relayState = 2 then
        let s' := updSlot b (fun t => { t with state := .fetching, pollDue := none }) s
        (requestRelay b (.relayFetch p.replyLength) s').getD (relayFinish b .busFail s)
      else if p.relayState = 3 then giveUp b s
      else relayFinish b .linkTimeout s

/-- R69: the clearing fetch that a poll on the bus has held back. -/
def heldFetch (b : Bay) (s : State) : State :=
  let s' := updSlot b (fun t => { t with pollDiscard := false }) s
  (requestRelay b (.relayFetch 0) s').getD (relayFinish b .linkTimeout s)

/-- R69, R70: the outcome of the RELAY FETCH. -/
def fetchOutcome (b : Bay) (r : BusResult) (s : State) : State :=
  let t := s.clr.slots[b]
  if t.clearing then relayFinish b .linkTimeout s
  else
    match r, t.message with
    | .success bytes, some m =>
      match decodeReply m bytes with
      | some reply => relayFinish b (.success reply) s
      | none => relayFinish b .linkRefused s
    | _, _ => relayFinish b .busFail s

/-- R66 to R70: the CLR takes the outcome of one of a slot's transactions. An outcome for a request the slot no longer
holds is discarded. -/
def relayOutcome (b : Bay) (o : Order) (r : BusResult) (s : State) : State :=
  let t := s.clr.slots[b]
  if t.abandoned then abandonedEnd b s
  else
    match t.state, o with
    | .sending, .relaySend _ => sendOutcome b r s
    | .awaiting, .statusRead _ => pollOutcome b r s
    | .fetching, .statusRead _ => if t.pollDiscard then heldFetch b s else s
    | .fetching, .relayFetch _ => fetchOutcome b r s
    | _, _ => s

/-- R68: the next poll is due. -/
def requestPoll (b : Bay) (s : State) : State :=
  let t := s.clr.slots[b]
  match t.state, t.pollDue with
  | .awaiting, some due =>
    let s := updSlot b (fun t => { t with pollDue := none }) (elapseTo due s)
    (requestRelay b (.statusRead true) s).getD (relayFinish b .busFail s)
  | _, _ => s

/-- R69: the relay time limit. -/
def relayLimit (b : Bay) (s : State) : State :=
  let t := s.clr.slots[b]
  match t.state, t.sendAck with
  | .awaiting, some ack => giveUp b (elapseTo (ack + Config.relayLimitMs) s)
  | _, _ => s

/-! ### The plug and EMPTY (R71, R75, R79) -/

/-- R71, R75: the CLR takes an accepted plug change. -/
def clrPlug (b : Bay) (plugged : Bool) (s : State) : State :=
  if plugged then identStart b s
  else
    let s := relayLost b .unplugged s
    if s.clr.idents[b].state = .waiting then updIdent b (fun i => { i with state := .none }) s else s

/-- R176, R180: a bay becomes EMPTY: the DPC's own part, then the CLR, the LCE and the FRS, then the path of the bays
behind (log 14). -/
def becomeEmpty (b : Bay) (s : State) : State :=
  pathBehind b (frsFree b (lampDiscard b (identityClear b (dpcExit b s))))

/-- R176, R180: the DPC takes an accepted presence change. -/
def presenceEvent (b : Bay) (occupied : Bool) (s : State) : State :=
  if occupied then dpcOccupied b s
  else if s.dpc.bays[b].state = .empty then s
  else becomeEmpty b s

/-- R60: the plug event, in the order DPC, CLR, HPL, PAL, LCE (DESIGN CHOICE, log 13). A bay plugged in is decided on
after its identification has cleared the complete-read mark (R181). -/
def plugEvent (b : Bay) (plugged : Bool) (s : State) : State :=
  let s := clrPlug b plugged (dpcPlug b plugged s)
  let s := palPlug b plugged (planBay b (if plugged then decideBay b s else s))
  if plugged then s else lampLost b .unplugged s

end Sys2Proof.Machine
end

