-- ==== Sys2Proof/Machine/Outcomes.lean ====
section
/-! DEFINITION. Pedestal health and the OFFLINE event, the Scan Sequencer, and how a transaction ends: its attempts, its
restore write and the delivery of its outcome (chapters 2 and 3). -/

namespace Sys2Proof.Machine

/-! ### Pedestal health (R36, R37) -/

/-- R37: the OFFLINE event: the queued requests and the output-write entry of the bay end, and the PAL, the LCE, the CLR
and the DPC take it. Their own outcomes of OFFLINE are discarded or ignored by rule (R72, R114, R142, R191). The DPC's hold comes before the
decisions that a lamp check's end brings (R175, log 14). -/
def offlineEvent (b : Bay) (s : State) : State :=
  relayLost b .busFail (lampLost b .offline (dpcOffline b (palOffline b (dropQueued b s))))

/-- R107, R175: a changed pedestal state is a candidacy event, and the DPC decides on the bay. R36, R107 and R175 do not order
the PAL's candidacy pass and the DPC's decision: the model runs the pass first, so an entry that the pass puts in the
output-write queue stands before the one of the DPC's aspect write (DESIGN CHOICE, log 14). -/
def healthDecision (b : Bay) (s : State) : State := decideBay b (candidacyEvent s)

/-- R36, R37, R107, R175: what a change of pedestal state brings about. -/
def pedestalChanged (b : Bay) (old : PedState) (s : State) : State :=
  let s := raiseBay .pedestal b s
  let s := if isOffline b s then offlineEvent b s else s
  healthDecision b (if old = .offline then holdClears .pedestal b s else s)

/-- R36: writes a bay's health; a change of state has its effects. -/
def setHealth (b : Bay) (h : Health) (s : State) : State :=
  let old := s.pbc.health[b].state
  let s := { s with pbc := { s.pbc with health := upd s.pbc.health b fun _ => h } }
  if h.state = old then s else pedestalChanged b old s

/-- R36: health after a counted failure. -/
def Health.fail (h : Health) : Health :=
  if h.count + 1 ≥ 3 then ⟨.offline, 3⟩ else ⟨.suspect, h.count + 1⟩

/-- R36: health after an attempt. -/
def Health.after (h : Health) : BusResult → Health
  | .success _ => ⟨.online, 0⟩
  | .failure k =>
    match k with
    | .refused => ⟨.online, 0⟩
    | .absent | .clash | .stall | .corrupt => h.fail
    | .lineLow | .offline => h

/-- R35, R37: the stuck line makes every pedestal OFFLINE: all of them first, and then each block takes the OFFLINE events
of the bays that were not OFFLINE before, in ascending order (DESIGN CHOICE, log 35). -/
def allOffline (s : State) : State :=
  let hit := allBays.filter fun b => !isOffline b s
  let each : (Bay → State → State) → State → State := fun f s => hit.foldl (fun s b => f b s) s
  let s := { s with pbc := { s.pbc with health := Vector.replicate 32 ⟨.offline, 3⟩ } }
  let s := each (fun b s => palOffline b (dropQueued b (raiseBay .pedestal b s))) s
  each healthDecision (each (relayLost · .busFail) (each (lampLost · .offline) (each dpcOffline s)))

/-! ### The Scan Sequencer (R48 to R61) -/

/-- R48: the default list, from the service states. -/
def defaultList (s : State) : List ScanEntry :=
  (allBays.filter fun b => s.dpc.bays[b].inService).map fun b => ⟨b, true⟩

/-- R48: the effective list. -/
def effectiveList (s : State) : List ScanEntry := if s.scs.setList = [] then defaultList s else s.scs.setList

/-- R51: requests the STATUS READ for an entry. -/
def requestScan (e : ScanEntry) (s : State) : State :=
  { s with pbc := { s.pbc with scanReq := some ⟨e.bay, e.high, s.clk.now⟩ } }

/-- R52, R54: starts a round; an empty list starts none. -/
def beginRound (s : State) : State :=
  match effectiveList s with
  | [] => { s with scs := { s.scs with roundList := [], pos := 0, round := .stopped, slow := false } }
  | e :: es =>
    requestScan e { s with scs := { s.scs with
      roundList := e :: es, pos := 0, round := .running, roundStart := s.clk.now, roundTick := s.clk.ticks } }

/-- R52: 250 ms have passed since the start of the last round. -/
def roundDue (s : State) : Bool := decide (s.clk.now ≥ s.scs.roundStart + Config.pacingMs)

/-- R52: the next round starts at once when it is due, and else at its 250 ms. -/
def paceRound (s : State) : State :=
  let s := { s with scs := { s.scs with pos := 0, round := .pacing } }
  if roundDue s then beginRound s else s

/-- R53, R125: the round is complete; it has lasted more than 2 s, or clears ROUND_SLOW (log 22). -/
def completeRound (s : State) : State :=
  let d := s.clk.now - s.scs.roundStart
  let s := { s with scs := { s.scs with
    lastDuration := min 65535 d, slow := decide (Config.slowMs < d) } }
  paceRound (meterCheck s)

/-- R53, R55, R15: the limit of 2 s of the round in progress has run out, counted in second ticks (log 22). -/
def lateRound (s : State) : State :=
  if s.clk.ticks - s.scs.roundTick ≥ Config.slowTicks then { s with scs := { s.scs with slow := true } } else s

/-- R50 to R53: the SCS goes on after the outcome of its request. -/
def advanceScan (s : State) : State :=
  match s.scs.round with
  | .running =>
    let s := lateRound { s with scs := { s.scs with pos := s.scs.pos + 1 } }
    match s.scs.roundList[s.scs.pos]? with
    | some e => requestScan e s
    | none => completeRound s
  | .abandoned => paceRound s
  | .starting | .pacing | .stopped => s

/-- R50: an accepted SET SCAN LIST abandons the round in progress. -/
def abandonRound (s : State) : State :=
  match s.scs.round with
  | .running | .abandoned => { s with scs := { s.scs with pos := 0, round := .abandoned } }
  | .starting | .pacing => { s with scs := { s.scs with pos := 0 } }
  | .stopped => paceRound s

/-- R54: a change of a service state makes a stopped SCS start again. -/
def serviceScan (s : State) : State := if s.scs.round = .stopped then paceRound s else s

/-- R59: accepted value and candidate after a report; the last part says whether a change was accepted. -/
def debounce (accepted cand reported : Bool) : Bool × Bool × Bool :=
  if reported = accepted then (accepted, false, false)
  else if cand then (reported, false, true)
  else (accepted, true, false)

/-- R56, R57: the report group as a report writes it. -/
def Report.take (r : Report) (p : StatusReport) : Report where
  plugged := (debounce r.plugged r.plugCand p.plugged).1
  occupied := (debounce r.occupied r.presCand p.occupied).1
  closed := p.closed
  aspect := p.aspect
  pressed := p.pressed
  supplyOn := p.supplyOn
  current := p.current
  high := p.high
  cabin := p.cabin
  age := some 0
  plugCand := (debounce r.plugged r.plugCand p.plugged).2.1
  presCand := (debounce r.occupied r.presCand p.occupied).2.1

/-- R61: the report event, to the PAL, the DPC and the LCE; the stop button's hold comes before every decision of the
event (R175, log 14). -/
def reportEvent (b : Bay) (s : State) : State := lampReport b (dpcReport b (palReport b (stopButton b s)))

/-- R60: one report, in its four phases. -/
def takeReport (b : Bay) (p : StatusReport) (s : State) : State :=
  let old := s.scs.reports[b]
  let new := old.take p
  let s := updReport b (fun _ => new) s
  let s := if new.plugged = old.plugged then s else plugEvent b new.plugged s
  let s := if new.occupied = old.occupied then s else presenceEvent b new.occupied s
  reportEvent b s

/-- R51, R56, R58: the SCS takes the outcome of its STATUS READ. -/
def scanOutcome (b : Bay) (r : BusResult) (s : State) : State :=
  advanceScan
    (match r with
     | .success bytes => match statusOf bytes with | some p => takeReport b p s | none => s
     | .failure _ => s)

/-! ### The end of a transaction (R26, R33, R42, R43) -/

/-- R42: the PBC reports an output write to each owner with a marked field: the PAL first, since the manual gives the two no
order (DESIGN CHOICE, log 42). -/
def outputReport (b : Bay) (m : Marks) (sent : Image) (r : BusResult) (s : State) : State :=
  let s := if m.contactor then palWriteReport b sent.closed r s else s
  if m.aspect || m.supply then dpcWriteReport b sent r s else s

/-- R26: the outcome goes to the requester. -/
def deliverOutcome (t : Trans) (b : Bay) (r : BusResult) (s : State) : State :=
  match t.who, t.order with
  | .scan, _ => scanOutcome b r s
  | .relay a, o => relayOutcome a o r s
  | .lamp c, _ => if t.discard then s else sampleOutcome c r s
  | .output m, .setOutputs image => outputReport b m image r s
  | _, _ => s

/-- R23, R43: an acknowledged address: the restore write, and the time of it. More than 2 s is more than two second ticks
(R15; DEDUCED, log 22). -/
def acknowledged (t : Trans) (b : Bay) (s : State) : State :=
  let silent : Bool := match s.pbc.lastAck[b] with
    | some last => decide (s.clk.ticks - last > Config.silenceTicks)
    | none => false
  let s :=
    if t.before = .unseen || t.before = .offline || silent || s.pbc.broadcastSince[b] then restoreWrite b s else s
  { s with pbc := { s.pbc with
      lastAck := upd s.pbc.lastAck b fun _ => some s.clk.ticks
      broadcastSince := upd s.pbc.broadcastSince b fun _ => false } }

/-- R34: the bus becomes STUCK. -/
def lineStuck (s : State) : State :=
  { s with pbc := { s.pbc with line := .stuck s.clk.ticks (s.clk.now + Config.recheckMs) false } }

/-- R26: the transaction ends. The effects of the health change stand before it, then comes the restore write of R43 and
last the delivery of the outcome: the manual gives these three no order (DESIGN CHOICE, log 36). -/
def endTransaction (t : Trans) (b : Bay) (r : BusResult) (s : State) : State :=
  let s := if r = .failure .lineLow then lineStuck s else s
  deliverOutcome t b r (if t.acked then acknowledged t b s else s)

/-- R33: a first attempt that failed with a counted kind is retried while the pedestal is not OFFLINE. -/
def retried (t : Trans) (r : BusResult) (after : Health) : Bool :=
  !t.retry && (match r with | .failure k => k.counted | .success _ => false) && after.state != .offline

/-- R33, R36: the transaction on the bus takes the end of one attempt. -/
def attemptEnd (a : Attempt) (s : State) : State :=
  match s.pbc.current with
  | some t =>
    match t.bay with
    | some b =>
      let r := attemptResult t.order a
      let t := { t with acked := t.acked || attemptAcked a }
      let h := s.pbc.health[b].after r
      if retried t r h then
        setHealth b h { s with pbc := { s.pbc with current := some { t with retry := true } } }
      else endTransaction t b r (setHealth b h { s with pbc := { s.pbc with current := none } })
    | none => s
  | none => s

/-- R33: the attempts of one outcome, in order; those after the transaction's end are none of its own. -/
def runAttempts : List Attempt → State → State
  | [], s => s
  | a :: as, s =>
    let s := attemptEnd a s
    if s.pbc.current.isSome then runAttempts as s else s

/-- R31: the broadcast has been sent: it is not retried and never fails. -/
def broadcastEnd (s : State) : State :=
  { s with pbc := { s.pbc with current := none, broadcastSince := Vector.replicate 32 true } }

/-! ### The stuck line (R35) -/

/-- R35: the recheck that is due samples the data line. -/
def recheckLine (high : Bool) (s : State) : State :=
  match s.pbc.line with
  | .normal => s
  | .stuck since next taken =>
    let s := elapseTo next s
    { s with pbc := { s.pbc with line := if high then .normal else .stuck since (next + Config.recheckMs) taken } }

/-- R35, R15: the bus has been STUCK for 2 s, counted in second ticks. -/
def stuckTwoSeconds (s : State) : State :=
  match s.pbc.line with
  | .normal => s
  | .stuck since next taken =>
    if taken ∨ s.clk.ticks - since < Config.stuckTicks then s
    else allOffline { s with pbc := { s.pbc with line := .stuck since next true } }

end Sys2Proof.Machine
end

