-- ==== Sys2Proof/Machine/Replies.lean ====
section
/-! DEFINITION. The content of every reply and notice that reports state, byte by byte (R205, R207, R210 and 10.7). -/

namespace Sys2Proof.Machine

/-! ### Shared fields -/

def bayField (b : Bay) : List Byte := u8 (bayNum b)

/-- Incomplete causes: READ bit 0, LAMP bit 1, HEATER bit 2. -/
def Causes.byte (c : Causes) : List Byte :=
  u8 ((if c.read then 1 else 0) + (if c.lamp then 2 else 0) + (if c.heater then 4 else 0))

/-- Whole minutes of elapsed time, saturating at 65534. -/
def wholeMinutes (ticks : Nat) : List Byte := u16 (min 65534 (ticks / 60))

/-- R4: lane and position of a bay. -/
def laneField (b : Bay) (s : State) : List Byte :=
  orOnes 2 (fun (p : Nat × Nat) => u8 p.1 ++ u8 p.2) (laneOf b s)

/-- The re-grant wait: whole seconds remaining, 1 to 60; 0 when not running. -/
def regrantLeft (p : PalBay) (s : State) : Nat :=
  match p.regrant with
  | some t => max 1 (Config.regrantTicks - (s.clk.ticks - t))
  | none => 0

/-- R203: the depot parameters as SET PARAMETERS carries them. -/
def Params.bytes (p : Params) : List Byte :=
  u8 p.margin ++ u8 p.callLead ++ u8 p.missLimit ++ u8 p.overdueWindow ++ u8 p.rotation ++ u8 p.stagger ++
    u8 p.keepBand ++ u8 p.tolerance ++ u16 p.voltage ++ u8 p.refresh ++ u8 p.validity ++ flag p.autoCheck

/-! ### QUERY BAY (R207) -/

def reportBytes (r : Report) : List Byte :=
  flag r.plugged ++ flag r.occupied ++ flag r.closed ++ u8 r.aspect.code ++ flag r.pressed ++ flag r.supplyOn ++
    u16 r.current ++ flag r.high ++ flag (r.current == 4095) ++ orAbsent r.cabin ++ orOnes 3 u24 r.age

def healthBytes (h : Health) : List Byte := u8 h.state.code ++ u8 h.count

def identityBytes (b : Bay) (s : State) : List Byte :=
  orOnes 6 id s.clr.idents[b].fleet ++ u8 s.clr.idents[b].cls ++ u8 s.clr.slots[b].state.code

def planBytes (p : Plan) : List Byte :=
  u16 p.need ++ s16 p.slack ++ u8 p.level.code ++ flag p.reached ++ flag p.long ++ u16 p.energy

def heatBytes (b : Bay) (s : State) : List Byte :=
  u8 (heatState b s).code ++ flag (grantOf b s).isSome ++ orOnes 3 timeOfDay s.pal.bays[b].lastRelease ++
    flag s.pal.bays[b].faultBlock

def lampBytes (b : Bay) (s : State) : List Byte :=
  u8 (lampStatus b s).code ++ flag s.lce.results[b].isSome ++ flag s.lce.waivers[b]

def faultBytes (f : FaultBay) : List Byte :=
  u8 f.chain.length ++ u8 f.dropped ++ flag f.causes.any ++ flag f.stale ++ orOnes 3 timeOfDay f.lastRead

def clearanceBytes (b : Bay) (s : State) : List Byte :=
  let d := s.dpc.bays[b]
  flag (!d.inService) ++ laneField b s ++ u8 d.state.code ++ orOnes 1 (fun c : ClearState => u8 c.code) d.ret ++
    [d.holds] ++ orOnes 1 u8 d.cur ++ flag d.overdue.isSome ++ u8 d.overdueCount ++ flag d.heatWaiver

def workingBytes (p : Plan) : List Byte :=
  orOnes 2 u16 p.target ++ orOnes 1 (fun c : TargetSource => u8 c.code) p.targetSource ++ orAbsent p.cabin ++
    orOnes 1 (fun c : CabinSource => u8 c.code) p.cabinSource ++ orAbsent p.ttd ++ orOnes 2 u16 p.derating ++
    orOnes 2 u16 p.rate ++ orOnes 2 u16 p.minute

/-- The complete-read mark, incomplete causes, read state and read page. -/
def readBytes (f : FaultBay) : List Byte :=
  flag f.complete ++ f.causes.byte ++ u8 f.readState.code ++ u8 f.page

/-- Section 10.7, QUERY BAY reply. -/
def bayReply (b : Bay) (s : State) : List Byte :=
  reportBytes s.scs.reports[b] ++ healthBytes s.pbc.health[b] ++ identityBytes b s ++ planBytes s.hpl.plans[b] ++
    heatBytes b s ++ lampBytes b s ++ faultBytes s.frs.bays[b] ++ clearanceBytes b s ++
    u8 s.clr.idents[b].state.code ++ workingBytes s.hpl.plans[b] ++ u16 s.pal.bays[b].pmeas ++
    flag s.pal.bays[b].pause ++ u8 (regrantLeft s.pal.bays[b] s) ++ flag (hasKind s.clu.pending[b] .overdue) ++
    readBytes s.frs.bays[b] ++ orOnes 8 ClassRec.name (effRec b s)

/-! ### QUERY DEPOT (R207) -/

def clockBytes (s : State) : List Byte := u8 s.clu.mode.code ++ timeOfDay s.clk.tod ++ flag s.clk.isSet

def Line.isStuck : Line → Bool
  | .normal => false
  | .stuck _ _ _ => true

def busBytes (s : State) : List Byte :=
  u8 s.clu.linkRate.code ++ u8 s.pbc.bitRate.code ++ flag s.pbc.line.isStuck

def scanBytes (s : State) : List Byte :=
  u8 s.scs.setList.length ++ flag s.scs.setList.isEmpty ++ u8 s.scs.pos ++ flag s.scs.slow ++ u16 s.scs.lastDuration

def weatherBytes (s : State) : List Byte :=
  s16 (outdoor s) ++ flag s.hpl.weather.value.isSome ++ flag s.hpl.weather.stale ++
    orOnes 2 wholeMinutes s.hpl.weather.age

def budgetBytes (s : State) : List Byte :=
  u8 s.pal.schedule.length ++ s.pal.schedule.flatMap (fun x => u16 x.minute ++ u16 x.budget) ++ u16 s.pal.budget ++
    u16 (committedLoad s) ++ u16 (liveLoad s) ++ u24 s.pal.meterSum ++ u8 s.pal.excess

/-- The free records, and the severity staging; an empty staging total is sent as a field that is none (R199; DEDUCED,
log 33). -/
def recordBytes (s : State) : List Byte :=
  u16 s.frs.free ++ u8 s.frs.staging.length ++ orOnes 1 u8 s.frs.stagingTotal

def ctxBytes (x : Ctx) : List Byte :=
  bayField x.bay ++ u8 x.phase.code ++ (if x.phase = .step then u8 x.stepIndex else [0xFF])

def lampQueueBytes (s : State) : List Byte :=
  u8 s.lce.queue.length ++ s.lce.queue.flatMap bayField ++ allCtxs.flatMap fun c => orOnes 3 ctxBytes s.lce.ctxs[c]

def gateBytes (s : State) : List Byte :=
  flag s.dpc.latchReleased ++ flag s.dpc.readingReleased ++ flag (externalHold s)

/-- Section 10.7, QUERY DEPOT reply. -/
def depotReply (s : State) : List Byte :=
  clockBytes s ++ busBytes s ++ scanBytes s ++ weatherBytes s ++ budgetBytes s ++ recordBytes s ++ lampQueueBytes s ++
    gateBytes s ++ s.params.bytes ++ u16 s.clu.mask.toNat

/-! ### Tables and results (R144, R152, R205) -/

/-- R205: one entry of LIST DEPARTURES. -/
def entryBytes (s : State) (e : Entry) : List Byte :=
  u8 e.id ++ u16 e.minute ++ bayField e.bay ++ e.label ++ orOnes 2 u16 e.target ++
    u8 ((if e.priority then 1 else 0) + (if e.restrictOk then 2 else 0)) ++ u8 e.state.code ++
    (if e.due then u16 (minutesSince e s).toNat else [0xFF, 0xFF])

/-- R205: LIST DEPARTURES. -/
def departuresReply (first : Nat) (s : State) : List Byte :=
  let run := (s.dpc.entries.drop first).take 12
  u8 s.dpc.entries.length ++ u8 first ++ u8 run.length ++ run.flatMap (entryBytes s)

/-- R205: one grant of QUERY GRANTS. The level at admission takes the codes of the levels of R82, NORMAL 2 and URGENT 3: R104
lists NORMAL and URGENT alone and section 10.7 gives no code (DESIGN CHOICE, log 54). -/
def grantBytes (g : Grant) : List Byte :=
  bayField g.bay ++ u16 g.power ++ u8 g.levelAtAdmission.code ++ timeOfDay g.admissionTod ++ u8 g.state.code ++
    timeOfDay g.changeTod

/-- R205: QUERY GRANTS. -/
def grantsReply (first : Nat) (s : State) : List Byte :=
  let run := (s.pal.grants.drop first).take 16
  u16 s.pal.budget ++ u16 (committedLoad s) ++ u16 (liveLoad s) ++ bayField s.pal.urgentPtr ++
    bayField s.pal.normalPtr ++ orOnes 1 bayField s.pal.outstanding ++ u8 s.pal.grants.length ++ u8 first ++
    u8 run.length ++ run.flatMap grantBytes

/-- Section 10.4: the byte that packs origin, severity, status and waived. -/
def packRecord (r : FaultRec) : List Byte :=
  u8 (r.origin.code + 4 * r.severity.code + (if r.active then 0 else 16) + (if r.waived then 32 else 0))

/-- Section 10.4: the 3 bytes of a record's detail. -/
def Detail.bytes : Detail → List Byte
  | .coach => [0xFF, 0xFF, 0xFF]
  | .lamp g d => u8 g ++ u16 d
  | .heater p k => u16 p ++ u8 k.code

def faultRecBytes (r : FaultRec) : List Byte :=
  u16 r.code ++ packRecord r ++ u8 r.count ++ u16 r.first ++ u16 r.last ++ r.detail.bytes

/-- Section 10.7, READ FAULTS reply. -/
def faultsReply (b : Bay) (s : State) : List Byte :=
  let f := s.frs.bays[b]
  faultBytes f ++ readBytes f ++ u8 f.reported.length ++
    orOnes 2 (fun t => wholeMinutes (s.clk.ticks - t)) f.endOfRead ++ f.chain.flatMap faultRecBytes

def Baseline.bytes : Baseline → List Byte
  | .value n => u16 n
  | .saturated => u16 0xFFFE

def stepEntryBytes (e : StepEntry) : List Byte :=
  u8 e.group ++ flag e.critical ++ u8 e.outcome.code ++ u16 e.delta

/-- Section 10.7, READ LAMP RESULT reply. -/
def lampReply (r : LampResult) (s : State) : List Byte :=
  timeOfDay r.completedTod ++ u16 (resultAge r s) ++ u8 r.outcome.code ++
    orOnes 1 (fun c : AbortCause => u8 c.code) r.cause ++ u8 r.cls ++ orOnes 2 Baseline.bytes r.baseline ++
    u8 r.steps.length ++ r.steps.flatMap stepEntryBytes

/-! ### Notices (R210, 10.7) -/

/-- Section 10.7: a bay notice. -/
def bayNotice (k : NoticeKind) (b : Bay) (s : State) : List Byte :=
  let d := s.dpc.bays[b]
  let r := s.scs.reports[b]
  u8 k.code ++ timeOfDay s.clk.tod ++ bayField b ++ u8 d.state.code ++
    orOnes 1 (fun c : ClearState => u8 c.code) d.ret ++ [d.holds] ++ orOnes 1 u8 d.cur ++
    orOnes 1 (fun e : Entry => u8 e.state.code) (curEntry b s) ++
    u8 ((if r.plugged then 1 else 0) + (if r.occupied then 2 else 0) + (if r.pressed then 4 else 0)) ++
    u8 s.pbc.health[b].state.code ++ u8 (heatState b s).code ++ u8 (level b s).code ++ u8 (lampStatus b s).code ++
    u8 d.overdueCount ++ u8 s.clr.idents[b].cls ++ orOnes 6 id s.clr.idents[b].fleet

/-- Section 10.7: the last sum in two bytes; what they hold for a wider sum is a free value (log 29). -/
def lastSumBytes (sum : Nat) : List Byte := if sum < 65536 then u16 sum else u16 (Config.wideSum sum).toNat

/-- Section 10.7: BUDGET_EXCEEDED. -/
def budgetNotice (s : State) : List Byte :=
  u8 NoticeKind.budgetExceeded.code ++ timeOfDay s.clk.tod ++ u16 s.pal.budget ++
    lastSumBytes s.pal.meterSum ++ u8 s.pal.excess

/-- Section 10.7: GATE. -/
def gateNotice (s : State) : List Byte := u8 NoticeKind.gate.code ++ timeOfDay s.clk.tod ++ gateBytes s

/-- R210: the entries an ENTRY notice carries, in the order the ids joined the set (DESIGN CHOICE, log 20). -/
def entryNoticeEntries (s : State) : List Entry := s.clu.entryIds.filterMap (entryById · s)

/-- Section 10.7: ENTRY. -/
def entryNotice (s : State) : List Byte :=
  let es := entryNoticeEntries s
  u8 NoticeKind.entry.code ++ timeOfDay s.clk.tod ++ u8 es.length ++
    es.flatMap fun e => u8 e.id ++ u8 e.state.code ++ bayField e.bay

end Sys2Proof.Machine
end

