-- ==== Sys2Proof/Machine/Requests.lean ====
section
/-! DEFINITION. The requests of the catalogue (10.4), one definition each: payload bytes and state to state and reply.
BAD_LENGTH is judged by the payload's layout (R198), then come the checks of the request's own rule in its order. -/

namespace Sys2Proof.Machine

/-- R198: a result and the reply content after it. -/
structure Reply where
  result : Result
  content : List Byte
deriving DecidableEq, Repr

/-- R198: a refused request changes nothing, and its reply carries the result alone. -/
def refuse (r : Result) (s : State) : State × Reply := (s, ⟨r, []⟩)

/-- An accepted request with no reply content. -/
def accept (s : State) : State × Reply := (s, ⟨.ok, []⟩)

/-- An accepted query. -/
def report (content : List Byte) (s : State) : State × Reply := (s, ⟨.ok, content⟩)

/-- A request with an empty payload. -/
def noPayload (p : List Byte) (s : State) (f : State × Reply) : State × Reply :=
  if p = [] then f else refuse .badLength s

/-- A request whose payload is one bay; R1 refuses a bay outside 1 to 32. -/
def onBay (p : List Byte) (s : State) (f : Bay → State × Reply) : State × Reply :=
  match p with
  | [n] => match bayByte n with | some b => f b | none => refuse .badValue s
  | _ => refuse .badLength s

/-! ### Modes (R200 to R202) -/

/-- R4, R200: the lane table holds a lane. -/
def hasLane (s : State) : Bool := s.dpc.lanes.toList.any fun l => !l.isEmpty

def setMode (m : Mode) (s : State) : State := { s with clu := { s.clu with mode := m } }

/-- R200. The PAL's candidacy event and its pass come before the DPC's part, in the order in which R200 lists the blocks; the
manual says no more of it (DESIGN CHOICE, log 14). -/
def reqStart (p : List Byte) (s : State) : State × Reply :=
  noPayload p s <|
    if s.clu.mode = .run then refuse .wrongMode s
    else if !s.clk.isSet then refuse .wrongMode s
    else if !hasLane s then refuse .wrongMode s
    else accept (dpcStart (candidacyEvent (setMode .run s)))

/-- R201. The DPC's holds come before the decisions that the ends of lamp checks bring (R175, log 14). -/
def reqStop (p : List Byte) (s : State) : State × Reply :=
  noPayload p s <|
    if s.clu.mode ≠ .run then refuse .wrongMode s
    else accept (slotFreeAll s (lampStop (palStop (dpcStop (setMode .safe (requestBroadcast s))))))

/-- R202. -/
def reqConfigure (p : List Byte) (s : State) : State × Reply :=
  noPayload p s <| if s.clu.mode ≠ .safe then refuse .wrongMode s else accept (setMode .config s)

/-! ### The clock (R14, R16 to R19) -/

/-- R14: a minute tick, in the order DPC, HPL, PAL, FRS (log 14). -/
def minuteTick (minute : Nat) (s : State) : State := frsMinute (palMinute (planAll (dpcMinute minute s)))

/-- R16: the step, the shortest signed difference across midnight. -/
def clockStep (old new : Nat) : Int := ((new : Int) - old + 43200) % 86400 - 43200

/-- R16 to R19: replaces the time of day; `step` in RUN and SAFE, a setting in CONFIG. -/
def setTime (new : Nat) (step : Bool) (s : State) : State :=
  let old := s.clk.tod
  let s := { s with clk := { s.clk with tod := new, isSet := true } }
  let k := (((new / 60 : Nat) : Int) - (old / 60 : Nat)) % 1440
  if k = 0 then s
  else
    let s := if step && decide (clockStep old new > 0) then forwardStep (old / 60) k.toNat s else s
    minuteTick (new / 60) s

/-- R16. -/
def reqSetClock (p : List Byte) (s : State) : State × Reply :=
  match p with
  | [h, m, sec] =>
    if h.toNat > 23 ∨ m.toNat > 59 ∨ sec.toNat > 59 then refuse .badValue s
    else
      let new := h.toNat * 3600 + m.toNat * 60 + sec.toNat
      if s.clu.mode = .config then accept (setTime new false s)
      else if clockStep s.clk.tod new < -300 ∨ clockStep s.clk.tod new > 300 then refuse .badValue s
      else accept (setTime new true s)
  | _ => refuse .badLength s

/-! ### Lanes and service (R3, R5) -/

/-- Section 10.4: the lane descriptions of SET LANES; none when the payload is not of the size its counts imply. -/
def parseLanes : Nat → List Byte → Option (List (Byte × List Byte))
  | 0, [] => some []
  | 0, _ :: _ => none
  | k + 1, lane :: n :: rest =>
    if rest.length < n.toNat then none
    else (parseLanes k (rest.drop n.toNat)).map ((lane, rest.take n.toNat) :: ·)
  | _ + 1, _ => none

/-- R5 step 2. -/
def lanesValid (ls : List (Byte × List Byte)) : Bool :=
  ls.all (fun l => decide (1 ≤ l.1.toNat ∧ l.1.toNat ≤ 8 ∧ 1 ≤ l.2.length ∧ l.2.length ≤ 8) &&
    l.2.all fun b => (bayByte b).isSome) &&
  decide (ls.map (·.1)).Nodup && decide (ls.flatMap (·.2)).Nodup

/-- R5: the lane table the descriptions make. -/
def laneTable (ls : List (Byte × List Byte)) : Vector (List Bay) 8 :=
  Vector.ofFn fun i : Fin 8 =>
    match ls.find? fun l => l.1.toNat == i.val + 1 with
    | some l => l.2.filterMap bayByte
    | none => []

/-- R5 step 3: a HELD bay that would belong to no lane. -/
def stranded (lanes : Vector (List Bay) 8) (s : State) : Bool :=
  allBays.any fun b => s.dpc.bays[b].state == .held && !(lanes.toList.any (·.contains b))

/-- R5, R6: replaces the lane table and takes a change of path for every bay of it, lane by lane and front to back (DESIGN
CHOICE, log 38). -/
def replaceLanes (lanes : Vector (List Bay) 8) (s : State) : State :=
  lanes.toList.flatten.foldl (fun s b => pathChange b s) { s with dpc := { s.dpc with lanes := lanes } }

/-- R5. -/
def reqSetLanes (p : List Byte) (s : State) : State × Reply :=
  match p with
  | n :: rest =>
    match parseLanes n.toNat rest with
    | none => refuse .badLength s
    | some ls =>
      if s.clu.mode ≠ .config then refuse .wrongMode s
      else if !lanesValid ls then refuse .badValue s
      else if stranded (laneTable ls) s then refuse .wrongState s
      else accept (replaceLanes (laneTable ls) s)
  | [] => refuse .badLength s

/-- R3: a change of service state, in the order SCS, PAL, DPC (DESIGN CHOICE, log 14). -/
def changeService (b : Bay) (inService : Bool) (s : State) : State :=
  pathBehind b (candidacyEvent (serviceScan (updDpc b (fun d => { d with inService := inService }) s)))

/-- R3. -/
def reqSetBayService (p : List Byte) (s : State) : State × Reply :=
  match p with
  | [n, v] =>
    if s.clu.mode ≠ .config then refuse .wrongMode s
    else
      match bayByte n, flagOf v with
      | some b, some out =>
        if out && s.dpc.bays[b].state == .held then refuse .wrongState s
        else if s.dpc.bays[b].inService = !out then accept s
        else accept (changeService b (!out) s)
      | _, _ => refuse .badValue s
  | _ => refuse .badLength s

/-! ### Classes and lamp plans (R8, R10, R130) -/

/-- R8: a class record from its bytes, when every field is in its range. -/
def classOf (name : List Byte) (ph r l t st n : Nat) : Option ClassRec :=
  if name.all isChar ∧ 10 ≤ ph ∧ ph ≤ 600 ∧ 1 ≤ r ∧ r ≤ 2000 ∧ l ≤ 25 ∧ 50 ≤ t ∧ t ≤ 260 ∧ 50 ≤ st ∧ st ≤ 2000 ∧
      2 ≤ n ∧ n ≤ 16 then some ⟨name, ph, r, l, t, st, n⟩
  else none

/-- The index of a class number 1 to 8. -/
def classIndex (n : Nat) : Option (Fin 8) := if h : 1 ≤ n ∧ n ≤ 8 then some ⟨n - 1, by omega⟩ else none

/-- R8, R10: defines a class, and each bay that holds it takes a class change. -/
def defineClass (i : Fin 8) (r : ClassRec) (s : State) : State :=
  forBays (fun b s => if s.clr.idents[b].cls = i.val + 1 then classChanged b s else s)
    { s with clu := { s.clu with classes := s.clu.classes.set i (some r) } }

/-- R8. -/
def reqSetClass (p : List Byte) (s : State) : State × Reply :=
  match p with
  | [c, n1, n2, n3, n4, n5, n6, n7, n8, ph, pl, rh, rl, l, th, tl, sh, sl, n] =>
    if s.clu.mode ≠ .config then refuse .wrongMode s
    else
      match classIndex c.toNat, classOf [n1, n2, n3, n4, n5, n6, n7, n8] (word ph pl) (word rh rl) l.toNat
        (word th tl) (word sh sl) n.toNat with
      | some i, some r => accept (defineClass i r s)
      | _, _ => refuse .badValue s
  | _ => refuse .badLength s

/-- Section 10.4: the steps of SET LAMP PLAN, unchecked; none when bytes are missing or over. -/
def parsePlan : Nat → List Byte → Option (List LampStep)
  | 0, [] => some []
  | 0, _ :: _ => none
  | k + 1, g :: mh :: ml :: xh :: xl :: rest =>
    (parsePlan k rest).map (⟨g.toNat % 128, g.msb, word mh ml, word xh xl⟩ :: ·)
  | _ + 1, _ => none

/-- R130 step 2, but for the class. -/
def planValid (steps : List LampStep) : Bool :=
  decide (steps.length ≤ Config.planCapacity) && decide (steps.map (·.group)).Nodup &&
    steps.all fun x => decide (1 ≤ x.group ∧ x.group ≤ 63 ∧ 1 ≤ x.min ∧ x.min ≤ 4000 ∧ x.min ≤ x.max ∧ x.max ≤ 4094)

/-- R130. -/
def reqSetLampPlan (p : List Byte) (s : State) : State × Reply :=
  match p with
  | c :: n :: rest =>
    match parsePlan n.toNat rest with
    | none => refuse .badLength s
    | some steps =>
      if s.clu.mode ≠ .config then refuse .wrongMode s
      else
        match classIndex c.toNat with
        | some i =>
          if planValid steps then accept { s with lce := { s.lce with plans := s.lce.plans.set i steps } }
          else refuse .badValue s
        | none => refuse .badValue s
  | _ => refuse .badLength s

/-! ### Severity table and scan list (R153, R204, R49) -/

/-- Section 10.4: entries of SET SEVERITY as low, high and severity code; none when the bytes are not 5 each. -/
def parseSeverity : List Byte → Option (List (Nat × Nat × Nat))
  | [] => some []
  | lh :: ll :: hh :: hl :: v :: rest => (parseSeverity rest).map ((word lh ll, word hh hl, v.toNat) :: ·)
  | _ => none

/-- R153: one entry of the table. -/
def sevOf (e : Nat × Nat × Nat) : Option SevEntry :=
  if 1 ≤ e.1 ∧ e.1 ≤ e.2.1 then (severityOf e.2.2).map (⟨e.1, e.2.1, ·⟩) else none

/-- R204: stages entries; a whole table replaces the severity table. -/
def stageEntries (total : Nat) (staged : List SevEntry) (s : State) : State :=
  if staged.length = total then
    { s with frs := { s.frs with table := staged, staging := [], stagingTotal := none } }
  else { s with frs := { s.frs with staging := staged, stagingTotal := some total } }

/-- R204. -/
def reqSetSeverity (p : List Byte) (s : State) : State × Reply :=
  match p with
  | t :: f :: rest =>
    match parseSeverity rest with
    | none => refuse .badLength s
    | some es =>
      if es.length > Config.severityFrame then refuse .badLength s
      else if t.toNat > Config.severityCapacity ∨ f.toNat + es.length > t.toNat ∨ !(es.all fun e => (sevOf e).isSome)
      then refuse .badValue s
      else if f.toNat ≠ 0 ∧ ¬(s.frs.stagingTotal = some t.toNat ∧ s.frs.staging.length = f.toNat) then
        refuse .wrongState s
      else
        let s := stageEntries t.toNat ((if f = 0 then [] else s.frs.staging) ++ es.filterMap sevOf) s
        report (u8 s.frs.staging.length) s
  | _ => refuse .badLength s

/-- Section 10.4: the entries of SET SCAN LIST; none when the bytes are not 2 each. -/
def parseScan : Nat → List Byte → Option (List (Byte × Byte))
  | 0, [] => some []
  | 0, _ :: _ => none
  | k + 1, a :: r :: rest => (parseScan k rest).map ((a, r) :: ·)
  | _ + 1, _ => none

/-- R49: one entry of the scan list. -/
def scanEntryOf (e : Byte × Byte) : Option ScanEntry :=
  match bayByte e.1, flagOf e.2 with
  | some b, some high => some ⟨b, high⟩
  | _, _ => none

/-- R49. -/
def reqSetScanList (p : List Byte) (s : State) : State × Reply :=
  match p with
  | n :: rest =>
    match parseScan n.toNat rest with
    | none => refuse .badLength s
    | some es =>
      if s.clu.mode ≠ .config then refuse .wrongMode s
      else if es.length > Config.scanCapacity ∨ !(es.all fun e => (scanEntryOf e).isSome) then refuse .badValue s
      else accept (abandonRound { s with scs := { s.scs with setList := es.filterMap scanEntryOf } })
  | [] => refuse .badLength s

/-! ### Parameters, budget, weather, notice mask (R203, R102, R87, R208) -/

/-- R203: the parameters, when every value lies in its range. -/
def paramsOf (p : Params) : Option Params :=
  if p.margin ≤ 60 ∧ p.callLead ≤ 60 ∧ p.missLimit ≤ 120 ∧ p.overdueWindow ≤ 30 ∧ p.rotation ≤ 60 ∧ 1 ≤ p.stagger ∧
      p.stagger ≤ 30 ∧ p.keepBand ≤ 50 ∧ p.tolerance ≤ 50 ∧ 200 ≤ p.voltage ∧ p.voltage ≤ 480 ∧ p.refresh ≤ 120 ∧
      1 ≤ p.validity ∧ p.validity ≤ 24 then some p
  else none

/-- R203: hands each changed parameter to the blocks that read it. The manual gives the effects of several changed
parameters no order: the plans come first, then the call rule, the closing queue and the decisions (DESIGN CHOICE,
log 43). -/
def changeParams (new : Params) (s : State) : State :=
  let old := s.params
  let s := { s with params := new }
  let s := if new.margin ≠ old.margin ∨ new.keepBand ≠ old.keepBand then planAll s else s
  let s := if new.callLead ≠ old.callLead then callLeadChanged s else s
  let s := if new.stagger ≠ old.stagger then examineClosing s else s
  if new.tolerance ≠ old.tolerance ∨ new.validity ≠ old.validity then decideAll s else s

/-- R203. -/
def reqSetParameters (p : List Byte) (s : State) : State × Reply :=
  match p with
  | [g, c, ml, w, q, st, k, ct, uh, ul, fr, v, a] =>
    match flagOf a with
    | none => refuse .badValue s
    | some auto =>
      match paramsOf ⟨g.toNat, c.toNat, ml.toNat, w.toNat, q.toNat, st.toNat, k.toNat, ct.toNat, word uh ul, fr.toNat,
        v.toNat, auto⟩ with
      | some new => accept (changeParams new s)
      | none => refuse .badValue s
  | _ => refuse .badLength s

/-- Section 10.4: the steps of SET BUDGET; none when the bytes are not 4 each. -/
def parseBudget : Nat → List Byte → Option (List BudgetStep)
  | 0, [] => some []
  | 0, _ :: _ => none
  | k + 1, mh :: ml :: bh :: bl :: rest => (parseBudget k rest).map (⟨word mh ml, word bh bl⟩ :: ·)
  | _ + 1, _ => none

/-- R102. -/
def budgetValid (xs : List BudgetStep) : Bool :=
  decide (xs.length ≤ Config.budgetCapacity) && xs.all (fun x => decide (x.minute ≤ 1439 ∧ x.budget ≤ 50000)) &&
    decide (xs.map (·.minute)).Nodup

/-- R102. -/
def reqSetBudget (p : List Byte) (s : State) : State × Reply :=
  match p with
  | n :: rest =>
    match parseBudget n.toNat rest with
    | none => refuse .badLength s
    | some xs =>
      if budgetValid xs then accept (budgetChanged { s with pal := { s.pal with schedule := sortSteps xs } })
      else refuse .badValue s
  | [] => refuse .badLength s

/-- R87. -/
def reqSetWeather (p : List Byte) (s : State) : State × Reply :=
  match p with
  | [h, l] =>
    (acceptWeather (swd h l) s,
      ⟨if clampOutdoor (swd h l) = swd h l then .ok else .clamped, s16 (clampOutdoor (swd h l))⟩)
  | _ => refuse .badLength s

/-- R208: replaces the mask and clears what the kinds it disables had pending. -/
def changeMask (m : KindSet) (s : State) : State :=
  { s with clu := { s.clu with
      mask := m
      pending := s.clu.pending.map (· &&& m)
      depotPending := s.clu.depotPending &&& m
      sendMark := if hasKind m .overdue then s.clu.sendMark else Vector.replicate 32 false
      entryIds := if hasKind m .entry then s.clu.entryIds else [] } }

/-- R208. -/
def reqSetNoticeMask (p : List Byte) (s : State) : State × Reply :=
  match p with
  | [h, l] => if h.msb then refuse .badValue s else accept (changeMask (BitVec.ofNat 15 (word h l)) s)
  | _ => refuse .badLength s

/-! ### Timetable (R171, R172, R205) -/

/-- R171 step 1, but for the bay and the id's use. -/
def departureValid (id d : Nat) (label : List Byte) (t flags : Nat) : Bool :=
  decide (1 ≤ id ∧ d ≤ 1439 ∧ (t = 0xFFFF ∨ (50 ≤ t ∧ t ≤ 260)) ∧ flags < 4) && label.all isChar

/-- R171: the entry joins the timetable. -/
def addEntry (e : Entry) (s : State) : State :=
  entriesChanged e.bay { s with dpc := { s.dpc with entries := insertEntry e s.dpc.entries } }

/-- R171. -/
def reqAddDeparture (p : List Byte) (s : State) : State × Reply :=
  match p with
  | [i, dh, dl, n, l1, l2, l3, l4, l5, l6, l7, l8, th, tl, f] =>
    let label := [l1, l2, l3, l4, l5, l6, l7, l8]
    match bayByte n with
    | none => refuse .badValue s
    | some b =>
      if !departureValid i.toNat (word dh dl) label (word th tl) f.toNat || (entryById i.toNat s).isSome then
        refuse .badValue s
      else if s.dpc.entries.length ≥ Config.timetableCapacity then refuse .full s
      else
        accept (addEntry
          { id := i.toNat, minute := word dh dl, bay := b, label := label
            target := if word th tl = 0xFFFF then none else some (word th tl)
            priority := f.getLsbD 0, restrictOk := f.getLsbD 1, state := .scheduled
            due := decide (word dh dl = s.minute), terminalSince := none } s)
  | _ => refuse .badLength s

/-- R172. -/
def reqCancelDeparture (p : List Byte) (s : State) : State × Reply :=
  match p with
  | [i] =>
    if i.toNat = 0 then refuse .badValue s
    else
      match entryById i.toNat s with
      | none => refuse .notFound s
      | some e =>
        if e.state = .scheduled ∨ e.state = .called then
          accept (entriesChanged e.bay (setEntryState e.id .cancelled s))
        else refuse .wrongState s
  | _ => refuse .badLength s

/-- R205. -/
def reqListDepartures (p : List Byte) (s : State) : State × Reply :=
  match p with
  | [f] => report (departuresReply f.toNat s) s
  | _ => refuse .badLength s

/-! ### One bay -/

/-- R207. -/
def reqQueryBay (p : List Byte) (s : State) : State × Reply := onBay p s fun b => report (bayReply b s) s

/-- R80. -/
def reqSetBayClass (p : List Byte) (s : State) : State × Reply :=
  match p with
  | [n, c] =>
    match bayByte n with
    | none => refuse .badValue s
    | some b =>
      if c.toNat > 8 then refuse .badValue s
      else if s.dpc.bays[b].state = .empty then refuse .wrongState s
      else accept (classChangeFrom (effClass b s) b (updIdent b (fun i => { i with cls := c.toNat }) s))
  | _ => refuse .badLength s

/-- R186. -/
def reqHoldBay (p : List Byte) (s : State) : State × Reply :=
  onBay p s fun b =>
    let d := s.dpc.bays[b]
    if d.state = .empty ∨ d.state = .standing then refuse .wrongState s
    else if hasHold d.holds .host then refuse .already s
    else accept (decideBay b (holdArises .host b s))

/-- R186. -/
def reqReleaseBay (p : List Byte) (s : State) : State × Reply :=
  onBay p s fun b =>
    let d := s.dpc.bays[b]
    if d.state = .held ∧ (hasHold d.holds .host ∨ hasHold d.holds .signal) then
      accept (decideBay b (holdClears .signal b (holdClears .host b s)))
    else refuse .wrongState s

/-- R187. -/
def reqWaiveHeat (p : List Byte) (s : State) : State × Reply :=
  onBay p s fun b =>
    if s.dpc.bays[b].state = .empty then refuse .wrongState s
    else if s.dpc.bays[b].heatWaiver then accept s
    else accept (decideBay b (updDpc b (fun d => { d with heatWaiver := true }) s))

/-- R147. -/
def reqWaiveLamp (p : List Byte) (s : State) : State × Reply :=
  onBay p s fun b => if s.dpc.bays[b].state = .empty then refuse .wrongState s else accept (setLampWaiver b s)

/-- R165. -/
def reqWaiveFault (p : List Byte) (s : State) : State × Reply :=
  match p with
  | [n, h, l] =>
    match bayByte n with
    | none => refuse .badValue s
    | some b =>
      if word h l = 0 then refuse .badValue s
      else if s.frs.bays[b].chain.any (·.code == word h l) then accept (waiveRecords b (word h l) s)
      else refuse .notFound s
  | _ => refuse .badLength s

/-- R132. -/
def reqStartLampCheck (p : List Byte) (s : State) : State × Reply :=
  onBay p s fun b => ((queueCheck b s).1, ⟨(queueCheck b s).2, []⟩)

/-- R143. -/
def reqCancelLampCheck (p : List Byte) (s : State) : State × Reply :=
  onBay p s fun b =>
    if lampAbortable b s then accept (slotFree b s (cancelCheck b s).1)
    else ((cancelCheck b s).1, ⟨(cancelCheck b s).2, []⟩)

/-- R144. -/
def reqReadLampResult (p : List Byte) (s : State) : State × Reply :=
  onBay p s fun b =>
    match s.lce.results[b] with
    | some r => report (lampReply r s) s
    | none => refuse .notFound s

/-- R152. -/
def reqReadFaults (p : List Byte) (s : State) : State × Reply := onBay p s fun b => report (faultsReply b s) s

/-- R155. -/
def reqRefreshFaults (p : List Byte) (s : State) : State × Reply :=
  onBay p s fun b =>
    if s.frs.bays[b].readState ≠ .idle then refuse .already s
    else if !s.scs.reports[b].plugged then refuse .wrongState s
    else accept (slotFree b s (startRead b s))

/-- R164: the part codes, LAMP 1 and HEATER 2. -/
def partOf (v : Byte) : Option Origin := if v = 1 then some .lamp else if v = 2 then some .heater else none

/-- R164. -/
def reqClearPartFault (p : List Byte) (s : State) : State × Reply :=
  match p with
  | [n, v] =>
    match bayByte n, partOf v with
    | some b, some o => accept (clearPart b o s)
    | _, _ => refuse .badValue s
  | _ => refuse .badLength s

/-- R188, R210: clears the bay's OVERDUE pending flag and send mark. -/
def ackOverdue (b : Bay) (s : State) : State :=
  { s with clu := { s.clu with
      pending := upd s.clu.pending b (dropKind · .overdue), sendMark := upd s.clu.sendMark b fun _ => false } }

/-- R188. -/
def reqAckOverdue (p : List Byte) (s : State) : State × Reply := onBay p s fun b => accept (ackOverdue b s)

/-- R206. -/
def reqIdentify (p : List Byte) (s : State) : State × Reply :=
  onBay p s fun b =>
    if isOffline b s then refuse .offline s
    else if !s.scs.reports[b].plugged then refuse .wrongState s
    else if s.clr.idents[b].state.busy then refuse .already s
    else accept (slotFree b s (identStart b s))

/-! ### The depot (R189, R205, R207) -/

/-- R207. -/
def reqQueryDepot (p : List Byte) (s : State) : State × Reply := noPayload p s (report (depotReply s) s)

/-- R205. -/
def reqQueryGrants (p : List Byte) (s : State) : State × Reply :=
  match p with
  | [f] => report (grantsReply f.toNat s) s
  | _ => refuse .badLength s

/-- R189. -/
def reqGateHold (p : List Byte) (s : State) : State × Reply := noPayload p s (accept (latchAssert s))

/-- R189. -/
def reqGateRelease (p : List Byte) (s : State) : State × Reply :=
  noPayload p s (if s.clu.mode ≠ .run then refuse .wrongMode s else accept (latchRelease s))

/-! ### The catalogue (R198) -/

/-- Section 10.4: the request of a TYPE, or none. -/
def requestOf (type : Byte) : Option (List Byte → State → State × Reply) :=
  match type.toNat with
  | 0x01 => some reqStart
  | 0x02 => some reqStop
  | 0x03 => some reqConfigure
  | 0x08 => some reqSetClock
  | 0x09 => some reqSetLanes
  | 0x0A => some reqSetBayService
  | 0x0B => some reqSetClass
  | 0x0C => some reqSetLampPlan
  | 0x0D => some reqSetSeverity
  | 0x0E => some reqSetScanList
  | 0x0F => some reqSetParameters
  | 0x10 => some reqSetBudget
  | 0x11 => some reqSetWeather
  | 0x12 => some reqSetNoticeMask
  | 0x18 => some reqAddDeparture
  | 0x19 => some reqCancelDeparture
  | 0x1A => some reqListDepartures
  | 0x20 => some reqQueryBay
  | 0x21 => some reqSetBayClass
  | 0x22 => some reqHoldBay
  | 0x23 => some reqReleaseBay
  | 0x24 => some reqWaiveHeat
  | 0x25 => some reqWaiveLamp
  | 0x26 => some reqWaiveFault
  | 0x27 => some reqStartLampCheck
  | 0x28 => some reqCancelLampCheck
  | 0x29 => some reqReadLampResult
  | 0x2A => some reqReadFaults
  | 0x2B => some reqRefreshFaults
  | 0x2C => some reqClearPartFault
  | 0x2D => some reqAckOverdue
  | 0x2E => some reqIdentify
  | 0x30 => some reqQueryDepot
  | 0x31 => some reqQueryGrants
  | 0x32 => some reqGateHold
  | 0x33 => some reqGateRelease
  | _ => none

/-- R198 step 1: a TYPE outside the catalogue. -/
def reqBadType (s : State) : State × Reply := refuse .badType s

/-- R198: checks a request and has the owning block apply it. -/
def serve (f : Frame) (s : State) : State × Reply :=
  match requestOf f.type with
  | some req => req f.payload s
  | none => reqBadType s

/-- R198: the reply frame. -/
def replyFrame (type tag : Byte) (r : Reply) : Frame := ⟨0x80 + type, tag, u8 r.result.code ++ r.content⟩

end Sys2Proof.Machine
end

