-- ==== Sys2Proof/Machine/Link.lean ====
section
/-! DEFINITION. The Control Link Unit: the receiver, the receive queue and the service of requests, the transmitter and its
notices (R196, R197, R209, R210), and the frame every command's event stands in. -/

namespace Sys2Proof.Machine

/-! ### The transmitter (R209, R210) -/

/-- Section 10.5: alerts before status, each in the order of the codes. -/
def noticeOrder : List NoticeKind :=
  [.overdue, .unclearedExit, .held, .heatFault, .pedestal, .budgetExceeded, .gate, .arrived, .identified, .ready,
    .cleared, .departed, .lampDone, .faultsChanged, .entry]

/-- Section 10.5: the three depot-wide kinds. -/
def NoticeKind.depotWide : NoticeKind → Bool
  | .budgetExceeded | .gate | .entry => true
  | .overdue | .unclearedExit | .held | .heatFault | .pedestal | .arrived | .identified | .ready | .cleared
  | .departed | .lampDone | .faultsChanged => false

/-- R209: a bay notice is ready to send. -/
def bayReady (k : NoticeKind) (b : Bay) (s : State) : Bool :=
  hasKind s.clu.pending[b] k && (k != .overdue || s.clu.sendMark[b])

/-- R209: the first ready notice; depot-wide kinds have no bay. -/
def nextNotice (s : State) : Option (NoticeKind × Option Bay) :=
  noticeOrder.findSome? fun k =>
    if k.depotWide then if hasKind s.clu.depotPending k then some (k, none) else none
    else (allBays.find? (bayReady k · s)).map fun b => (k, some b)

/-- R210: the transmitter begins a notice with a payload. -/
def beginNotice (payload : List Byte) (s : State) : State :=
  { s with clu := { s.clu with tx := .notice ⟨0xC0, 0, payload⟩ } }

/-- R210: sends a bay notice: OVERDUE loses its send mark, any other kind its flag, and then a pending OVERDUE of the bay
is marked to be sent again. -/
def sendBayNotice (k : NoticeKind) (b : Bay) (s : State) : State :=
  beginNotice (bayNotice k b s)
    (if k = .overdue then { s with clu := { s.clu with sendMark := upd s.clu.sendMark b fun _ => false } }
     else { s with clu := { s.clu with
       pending := upd s.clu.pending b (dropKind · k)
       sendMark := upd s.clu.sendMark b fun m => m || hasKind s.clu.pending[b] .overdue } })

/-- R210: clears the flag of a depot-wide kind. -/
def clearDepot (k : NoticeKind) (s : State) : State :=
  { s with clu := { s.clu with depotPending := dropKind s.clu.depotPending k } }

/-- R210: an ENTRY notice whose ids have all left the timetable is not sent. -/
def sendEntryNotice (s : State) : State × Bool :=
  let t := clearDepot .entry { s with clu := { s.clu with entryIds := [] } }
  if entryNoticeEntries s = [] then (t, false) else (beginNotice (entryNotice s) t, true)

/-- R209, R210: sends one notice if one is ready; the second part says whether one was sent. -/
def sendNotice (s : State) : State × Bool :=
  match nextNotice s with
  | none => (s, false)
  | some (k, some b) => (sendBayNotice k b s, true)
  | some (k, none) =>
    match k with
    | .budgetExceeded => (beginNotice (budgetNotice s) (clearDepot k s), true)
    | .gate => (beginNotice (gateNotice s) (clearDepot k s), true)
    | _ => sendEntryNotice s

/-- R209 steps 2 to 4: a waiting reply, else one notice, else idle. -/
def sendNext (s : State) : State :=
  match s.clu.replies with
  | f :: fs => { s with clu := { s.clu with replies := fs, tx := .reply f } }
  | [] => (sendNotice s).1

/-- R209: the idle transmitter's choice; `afterReply` when the frame just sent was a reply. -/
def transmit (afterReply : Bool) (s : State) : State :=
  match s.clu.tx with
  | .idle =>
    if afterReply then
      let r := sendNotice s
      if r.2 then r.1 else sendNext r.1
    else sendNext s
  | .reply _ | .notice _ => s

/-! ### Requests (R197, R198) -/

/-- R198: a request is taken, checked and applied, and its reply waits for the transmitter. -/
def answer (f : Frame) (r : State × Reply) : State :=
  { r.1 with clu := { r.1.clu with replies := r.1.clu.replies ++ [replyFrame f.type f.tag r.2] } }

/-- R197: no reply of the CLU is waiting or being sent. -/
def replyFree (s : State) : Bool :=
  s.clu.replies.isEmpty && match s.clu.tx with | .reply _ => false | .idle | .notice _ => true

/-- R197: the CLU takes the head request. -/
def takeNext (s : State) : State :=
  if replyFree s then
    match s.clu.rxQueue with
    | f :: fs =>
      let s := { s with clu := { s.clu with rxQueue := fs } }
      answer f (serve f s)
    | [] => s
  else s

/-- R197: the TYPE lies in 0x01 to 0x3F and the TAG is not 0. -/
def Frame.isRequest (f : Frame) : Bool := decide (1 ≤ f.type.toNat ∧ f.type.toNat ≤ 0x3F ∧ f.tag ≠ 0)

/-- R197: a complete frame is queued or discarded, and the head is taken when it may be. -/
def queueFrame (f : Frame) (s : State) : State :=
  if f.isRequest && decide (s.clu.rxQueue.length < Config.rxCapacity) then
    takeNext { s with clu := { s.clu with rxQueue := s.clu.rxQueue ++ [f] } }
  else s

/-! ### The receiver (R196) -/

/-- R196: LEN is 2 to 250. -/
def lenOk (len : Byte) : Bool := decide (2 ≤ len.toNat ∧ len.toNat ≤ 250)

/-- R196: the frame that LEN, TYPE, TAG, payload and two CRC bytes spell, when the CRC agrees. -/
def completeFrame (got : List Byte) : Option Frame :=
  let body := got.dropLast.dropLast
  match body with
  | _ :: t :: g :: payload =>
    if got.drop body.length = u16 (crc16 body).toNat then some ⟨t, g, payload⟩ else none
  | _ => none

def setReceiver (r : Receiver) (s : State) : State := { s with clu := { s.clu with receiver := r } }

/-- R196: the receiver takes one character with a good stop bit. -/
def takeChar (c : Byte) (s : State) : State :=
  match s.clu.receiver with
  | .hunting => if c = 0x7E then setReceiver (.frame []) s else s
  | .frame [] => setReceiver (if lenOk c then .frame [c] else .hunting) s
  | .frame (len :: got) =>
    let all := len :: (got ++ [c])
    if all.length < len.toNat + 3 then setReceiver (.frame all) s
    else
      let s := setReceiver .hunting s
      match completeFrame all with
      | some f => queueFrame f s
      | none => s

/-! ### Every command's event -/

/-- R52, R63, R40: right after reset the SCS starts the first round, and the arbiter takes the broadcast (log 10). -/
def wake (s : State) : State := if s.scs.round = .starting then arbitrate (beginRound s) else s

/-- R40, R209: at the end of an event the arbiter and the transmitter, when idle, choose (log 9). -/
def finish (s : State) : State := transmit false (arbitrate s)

/-- One event of the part. -/
def event (f : State → State) (s : State) : State := finish (f (wake s))

/-- R198: the CLU takes a request with a TYPE, a TAG and a payload (log 1). A frame of TAG 0 is discarded (R197). -/
def takeRequest (type tag : Byte) (payload : List Byte) (req : List Byte → State → State × Reply) : State → State :=
  event fun s => if tag = 0 then s else answer ⟨type, tag, payload⟩ (req payload s)

/-- R197, R209: the frame being sent has been sent whole: the next request is taken, and then the transmitter chooses. -/
def frameDone (s : State) : State :=
  let idle : State → State := fun s => { s with clu := { s.clu with tx := .idle } }
  match s.clu.tx with
  | .idle => s
  | .reply _ => transmit true (takeNext (idle s))
  | .notice _ => transmit false (takeNext (idle s))

end Sys2Proof.Machine
end

