-- ==== Sys2Proof/Machine/RequestCommands.lean ====
section
/-! DEFINITION. The meanings of the 36 requests of the catalogue as commands: the CLU takes that request now (log 1). -/

namespace Sys2Proof.Machine

abbrev Outcome := Host.Outcome State Fault Refusal

/-- R200. -/
def execStart (tag : Byte) (payload : List Byte) (s : State) : Outcome :=
  .next (takeRequest 0x01 tag payload reqStart s)

/-- R201. -/
def execStop (tag : Byte) (payload : List Byte) (s : State) : Outcome :=
  .next (takeRequest 0x02 tag payload reqStop s)

/-- R202. -/
def execConfigure (tag : Byte) (payload : List Byte) (s : State) : Outcome :=
  .next (takeRequest 0x03 tag payload reqConfigure s)

/-- R16. -/
def execSetClock (tag : Byte) (payload : List Byte) (s : State) : Outcome :=
  .next (takeRequest 0x08 tag payload reqSetClock s)

/-- R5. -/
def execSetLanes (tag : Byte) (payload : List Byte) (s : State) : Outcome :=
  .next (takeRequest 0x09 tag payload reqSetLanes s)

/-- R3. -/
def execSetBayService (tag : Byte) (payload : List Byte) (s : State) : Outcome :=
  .next (takeRequest 0x0A tag payload reqSetBayService s)

/-- R8. -/
def execSetClass (tag : Byte) (payload : List Byte) (s : State) : Outcome :=
  .next (takeRequest 0x0B tag payload reqSetClass s)

/-- R130. -/
def execSetLampPlan (tag : Byte) (payload : List Byte) (s : State) : Outcome :=
  .next (takeRequest 0x0C tag payload reqSetLampPlan s)

/-- R204. -/
def execSetSeverity (tag : Byte) (payload : List Byte) (s : State) : Outcome :=
  .next (takeRequest 0x0D tag payload reqSetSeverity s)

/-- R49. -/
def execSetScanList (tag : Byte) (payload : List Byte) (s : State) : Outcome :=
  .next (takeRequest 0x0E tag payload reqSetScanList s)

/-- R203. -/
def execSetParameters (tag : Byte) (payload : List Byte) (s : State) : Outcome :=
  .next (takeRequest 0x0F tag payload reqSetParameters s)

/-- R102. -/
def execSetBudget (tag : Byte) (payload : List Byte) (s : State) : Outcome :=
  .next (takeRequest 0x10 tag payload reqSetBudget s)

/-- R87. -/
def execSetWeather (tag : Byte) (payload : List Byte) (s : State) : Outcome :=
  .next (takeRequest 0x11 tag payload reqSetWeather s)

/-- R208. -/
def execSetNoticeMask (tag : Byte) (payload : List Byte) (s : State) : Outcome :=
  .next (takeRequest 0x12 tag payload reqSetNoticeMask s)

/-- R171. -/
def execAddDeparture (tag : Byte) (payload : List Byte) (s : State) : Outcome :=
  .next (takeRequest 0x18 tag payload reqAddDeparture s)

/-- R172. -/
def execCancelDeparture (tag : Byte) (payload : List Byte) (s : State) : Outcome :=
  .next (takeRequest 0x19 tag payload reqCancelDeparture s)

/-- R205. -/
def execListDepartures (tag : Byte) (payload : List Byte) (s : State) : Outcome :=
  .next (takeRequest 0x1A tag payload reqListDepartures s)

/-- R207. -/
def execQueryBay (tag : Byte) (payload : List Byte) (s : State) : Outcome :=
  .next (takeRequest 0x20 tag payload reqQueryBay s)

/-- R80. -/
def execSetBayClass (tag : Byte) (payload : List Byte) (s : State) : Outcome :=
  .next (takeRequest 0x21 tag payload reqSetBayClass s)

/-- R186. -/
def execHoldBay (tag : Byte) (payload : List Byte) (s : State) : Outcome :=
  .next (takeRequest 0x22 tag payload reqHoldBay s)

/-- R186. -/
def execReleaseBay (tag : Byte) (payload : List Byte) (s : State) : Outcome :=
  .next (takeRequest 0x23 tag payload reqReleaseBay s)

/-- R187. -/
def execWaiveHeat (tag : Byte) (payload : List Byte) (s : State) : Outcome :=
  .next (takeRequest 0x24 tag payload reqWaiveHeat s)

/-- R147. -/
def execWaiveLamp (tag : Byte) (payload : List Byte) (s : State) : Outcome :=
  .next (takeRequest 0x25 tag payload reqWaiveLamp s)

/-- R165. -/
def execWaiveFault (tag : Byte) (payload : List Byte) (s : State) : Outcome :=
  .next (takeRequest 0x26 tag payload reqWaiveFault s)

/-- R132. -/
def execStartLampCheck (tag : Byte) (payload : List Byte) (s : State) : Outcome :=
  .next (takeRequest 0x27 tag payload reqStartLampCheck s)

/-- R143. -/
def execCancelLampCheck (tag : Byte) (payload : List Byte) (s : State) : Outcome :=
  .next (takeRequest 0x28 tag payload reqCancelLampCheck s)

/-- R144. -/
def execReadLampResult (tag : Byte) (payload : List Byte) (s : State) : Outcome :=
  .next (takeRequest 0x29 tag payload reqReadLampResult s)

/-- R152. -/
def execReadFaults (tag : Byte) (payload : List Byte) (s : State) : Outcome :=
  .next (takeRequest 0x2A tag payload reqReadFaults s)

/-- R155. -/
def execRefreshFaults (tag : Byte) (payload : List Byte) (s : State) : Outcome :=
  .next (takeRequest 0x2B tag payload reqRefreshFaults s)

/-- R164. -/
def execClearPartFault (tag : Byte) (payload : List Byte) (s : State) : Outcome :=
  .next (takeRequest 0x2C tag payload reqClearPartFault s)

/-- R188. -/
def execAckOverdue (tag : Byte) (payload : List Byte) (s : State) : Outcome :=
  .next (takeRequest 0x2D tag payload reqAckOverdue s)

/-- R206. -/
def execIdentify (tag : Byte) (payload : List Byte) (s : State) : Outcome :=
  .next (takeRequest 0x2E tag payload reqIdentify s)

/-- R207. -/
def execQueryDepot (tag : Byte) (payload : List Byte) (s : State) : Outcome :=
  .next (takeRequest 0x30 tag payload reqQueryDepot s)

/-- R205. -/
def execQueryGrants (tag : Byte) (payload : List Byte) (s : State) : Outcome :=
  .next (takeRequest 0x31 tag payload reqQueryGrants s)

/-- R189. -/
def execGateHold (tag : Byte) (payload : List Byte) (s : State) : Outcome :=
  .next (takeRequest 0x32 tag payload reqGateHold s)

/-- R189. -/
def execGateRelease (tag : Byte) (payload : List Byte) (s : State) : Outcome :=
  .next (takeRequest 0x33 tag payload reqGateRelease s)

end Sys2Proof.Machine
end

