-- ==== Sys2Proof/Machine/EventCommands.lean ====
section
/-! DEFINITION. The meanings of the commands that are not requests: reset and clock, link characters, the gate pin, ended
transactions, and limits that run out. A limit that is not running, or an ended transaction that is not the one on the
bus, changes nothing (logs 4, 7). -/

namespace Sys2Proof.Machine

/-! ### Reset and clock -/

/-- R195. -/
def linkRateOf (link1 link0 : Bool) : LinkRate :=
  match link1, link0 with
  | false, false => .baud19200
  | false, true => .baud57600
  | true, false => .baud115200
  | true, true => .baud230400

/-- R20. -/
def busRateOf (bus1 bus0 : Bool) : BusRate :=
  match bus1, bus0 with
  | false, false => .kbit31
  | false, true => .kbit62
  | true, false => .kbit125
  | true, true => .kbit31

/-- RESET: every item takes its value after reset and the straps are sampled; the commands that wait stay (log 31). -/
def execReset (link1 link0 bus1 bus0 : Bool) (s : State) : Outcome :=
  .next { State.reset with
    clu := { Clu.atReset with linkRate := linkRateOf link1 link0 }
    pbc := { Pbc.atReset with bitRate := busRateOf bus1 bus0 }
    pending := s.pending }

/-- R58: the report age after a second tick. -/
def ageReport (r : Report) : Report := { r with age := r.age.map fun a => min 65535 (a + 1) }

/-- R13, R14, R15: one second of elapsed time. -/
def advanceSecond (c : Clock) : Clock where
  tod := (c.tod + 1) % 86400
  isSet := c.isSet
  now := max c.now (1000 * (c.ticks + 1))
  ticks := c.ticks + 1
  minuteTicks :=
    if (c.tod + 1) % 60 = 0 then c.minuteTicks ++ [(c.tod + 1) % 86400 / 60] else c.minuteTicks

/-- R13, R58, R88, R134: the second tick. -/
def secondTick (s : State) : State :=
  examineQueue (ageWeather { s with
    clk := advanceSecond s.clk, scs := { s.scs with reports := s.scs.reports.map ageReport } })

/-- SECOND_TICK, R13. -/
def execSecondTick (s : State) : Outcome := .next (event secondTick s)

/-- R14: the blocks take the oldest minute tick that the second tick has raised (log 6). -/
def takeMinuteTick (s : State) : State :=
  match s.clk.minuteTicks with
  | m :: ms => minuteTick m { s with clk := { s.clk with minuteTicks := ms } }
  | [] => s

/-- MINUTE_TICK, R14. -/
def execMinuteTick (s : State) : Outcome := .next (event takeMinuteTick s)

/-! ### The control link -/

/-- FRAME_RECEIVED, R196, R197. -/
def execFrameReceived (chars : List Byte) (s : State) : Outcome :=
  .next (event (fun s => chars.foldl (fun s c => takeChar c s) s) s)

/-- INTER_CHARACTER_TIMEOUT, R196. -/
def execInterCharacterTimeout (s : State) : Outcome := .next (event (setReceiver .hunting) s)

/-- BROKEN_CHARACTER, R195, R196. -/
def execBrokenCharacter (s : State) : Outcome := .next (event (setReceiver .hunting) s)

/-- R196: a LEN outside 2 to 250, right after SOF, abandons the frame; elsewhere no character is a LEN (DEDUCED,
log 49). -/
def badLen (len : Byte) (s : State) : State :=
  if s.clu.receiver = .frame [] ∧ lenOk len = false then setReceiver .hunting s else s

/-- LEN_OUT_OF_RANGE, R196. -/
def execLenOutOfRange (len : Byte) (s : State) : Outcome := .next (event (badLen len) s)

/-- FRAME_SENT, R209. -/
def execFrameSent (s : State) : Outcome := .next (event frameDone s)

/-- BAD_TYPE_REQUEST, R198: a request whose TYPE the catalogue may not know; a TYPE outside 0x01 to 0x3F or TAG 0 is
discarded (R197). -/
def execBadTypeRequest (type tag : Byte) (payload : List Byte) (s : State) : Outcome :=
  .next (event (fun s =>
    if (⟨type, tag, payload⟩ : Frame).isRequest then answer ⟨type, tag, payload⟩ (serve ⟨type, tag, payload⟩ s) else s) s)

/-! ### The gate line (R190) -/

/-- GATE_PIN_CHANGE. -/
def execGatePinChange (high : Bool) (s : State) : Outcome := .next (event (pinChange high) s)

/-- GATE_DEBOUNCE_EXPIRY. -/
def execGateDebounceExpiry (s : State) : Outcome := .next (event gateReading s)

/-! ### Ended transactions (R26, R33) -/

/-- The transaction on the bus, if it is of the kind `p`, takes the ends of its attempts; freed slots then tell their
waiting requesters (log 12). -/
def endedBy (p : Trans → Bool) (attempts : List Attempt) (s : State) : State :=
  match s.pbc.current with
  | some t => if p t then slotFreeAll s (runAttempts attempts s) else s
  | none => s

def Trans.isScan (t : Trans) : Bool := t.who == .scan

/-- A transaction of the slot's that carries RELAY SEND. -/
def Trans.isSend (t : Trans) : Bool :=
  match t.who, t.order with | .relay _, .relaySend _ => true | _, _ => false

/-- A STATUS READ poll of the CLR's. -/
def Trans.isPoll (t : Trans) : Bool :=
  match t.who, t.order with | .relay _, .statusRead _ => true | _, _ => false

def Trans.isFetch (t : Trans) : Bool :=
  match t.who, t.order with | .relay _, .relayFetch _ => true | _, _ => false

def Trans.isSample (t : Trans) : Bool :=
  match t.who, t.order with | .lamp _, .sampleBlock _ => true | _, _ => false

def Trans.isOutput (t : Trans) : Bool :=
  match t.who, t.order with | .output _, .setOutputs _ => true | _, _ => false

/-- SCAN_STATUS_READ_OUTCOME, R51. -/
def execScanStatusReadOutcome (attempts : List Attempt) (s : State) : Outcome :=
  .next (event (endedBy Trans.isScan attempts) s)

/-- RELAY_SEND_OUTCOME, R67. -/
def execRelaySendOutcome (attempts : List Attempt) (s : State) : Outcome :=
  .next (event (endedBy Trans.isSend attempts) s)

/-- POLL_OUTCOME, R68. -/
def execPollOutcome (attempts : List Attempt) (s : State) : Outcome :=
  .next (event (endedBy Trans.isPoll attempts) s)

/-- RELAY_FETCH_OUTCOME, R70. -/
def execRelayFetchOutcome (attempts : List Attempt) (s : State) : Outcome :=
  .next (event (endedBy Trans.isFetch attempts) s)

/-- SAMPLE_BLOCK_OUTCOME, R136. -/
def execSampleBlockOutcome (attempts : List Attempt) (s : State) : Outcome :=
  .next (event (endedBy Trans.isSample attempts) s)

/-- SET_OUTPUTS_OUTCOME, R42. -/
def execSetOutputsOutcome (attempts : List Attempt) (s : State) : Outcome :=
  .next (event (endedBy Trans.isOutput attempts) s)

/-- R31: the broadcast on the bus has been sent. -/
def broadcastDone (s : State) : State :=
  match s.pbc.current with
  | some t => if t.who = .broadcast then broadcastEnd s else s
  | none => s

/-- ALL_SAFE_END, R31. -/
def execAllSafeEnd (s : State) : Outcome := .next (event broadcastDone s)

/-- WAIT_LIMIT_EXPIRY, R24: the attempt on the bus fails with STALL. -/
def execWaitLimitExpiry (s : State) : Outcome :=
  .next (event (endedBy (fun t => t.who != .broadcast) [.waitTooLong]) s)

/-! ### Limits of the bus and the scan -/

/-- STUCK_RECHECK, R35. -/
def execStuckRecheck (high : Bool) (s : State) : Outcome := .next (event (recheckLine high) s)

/-- STUCK_LINE_LIMIT, R35. -/
def execStuckLineLimit (s : State) : Outcome := .next (event (fun s => slotFreeAll s (stuckTwoSeconds s)) s)

/-- R39: the waiting scan request's age has just exceeded 500 ms. -/
def ageScanRequest (s : State) : State :=
  match s.pbc.scanReq with
  | some r => elapseTo (r.made + Config.promotionMs + 1) s
  | none => s

/-- SCAN_REQUEST_PROMOTION, R39. -/
def execScanRequestPromotion (s : State) : Outcome := .next (event ageScanRequest s)

/-- R52: the round start that has been waited for. -/
def startRound (s : State) : State :=
  if s.scs.round = .pacing then beginRound (elapseTo (s.scs.roundStart + Config.pacingMs) s) else s

/-- ROUND_START, R52. -/
def execRoundStart (s : State) : Outcome := .next (event startRound s)

/-- R53: the limit of the round in progress. -/
def slowRound (s : State) : State := if s.scs.round = .running then lateRound s else s

/-- ROUND_SLOW_LIMIT, R53. -/
def execRoundSlowLimit (s : State) : Outcome := .next (event slowRound s)

/-! ### Limits of the relays (R68, R69) -/

/-- POLL_DUE. -/
def execPollDue (bay : Bay) (s : State) : Outcome := .next (event (fun s => slotFree bay s (requestPoll bay s)) s)

/-- RELAY_TIME_LIMIT. -/
def execRelayTimeLimit (bay : Bay) (s : State) : Outcome :=
  .next (event (fun s => slotFree bay s (relayLimit bay s)) s)

/-! ### Other limits -/

/-- WEATHER_STALE, R88. -/
def execWeatherStale (s : State) : Outcome := .next (event weatherLimit s)

/-- R106: the bay's 60 s re-grant wait has run out. -/
def regrantOver (b : Bay) (s : State) : State :=
  match s.pal.bays[b].regrant with
  | some t =>
    if s.clk.ticks - t ≥ Config.regrantTicks then candidacyEvent (updPalBay b (fun p => { p with regrant := none }) s)
    else s
  | none => s

/-- REGRANT_WAIT_EXPIRY, R106. -/
def execRegrantWaitExpiry (bay : Bay) (s : State) : Outcome := .next (event (regrantOver bay) s)

/-- CLOSING_STAGGER_EXPIRY, R113. -/
def execClosingStaggerExpiry (s : State) : Outcome := .next (event examineClosing s)

/-- NO_LOAD_LIMIT, R118. -/
def execNoLoadLimit (bay : Bay) (s : State) : Outcome := .next (event (noLoad bay) s)

/-- CONTACTOR_STUCK_LIMIT, R116. -/
def execContactorStuckLimit (bay : Bay) (s : State) : Outcome := .next (event (stuckLimit bay) s)

/-- R121: the bay's grant has been ORPHANED for 3 s. -/
def orphanOver (b : Bay) (s : State) : State :=
  match grantOf b s with
  | some g =>
    if g.state = .orphaned ∧ (∃ t ∈ g.orphanedAt, s.clk.ticks - t ≥ Config.orphanTicks) then
      allocationPass false (grantLeaves b s)
    else s
  | none => s

/-- ORPHAN_DELAY_EXPIRY, R121. -/
def execOrphanDelayExpiry (bay : Bay) (s : State) : Outcome := .next (event (orphanOver bay) s)

/-- SETTLE_TIME_EXPIRY, R136, R137. -/
def execSettleTimeExpiry (ctx : CtxId) (s : State) : Outcome := .next (event (settlePassed ctx) s)

/-- OVERDUE_EXPIRY, R188. -/
def execOverdueExpiry (bay : Bay) (s : State) : Outcome := .next (event (overdueLimit bay) s)

end Sys2Proof.Machine
end

