-- ==== Sys2Proof/Machine/Dispatch.lean ====
section
/-! DEFINITION. One arm per command. -/

namespace Sys2Proof.Machine

def exec (i : Instr) (s : State) : Host.Outcome State Fault Refusal :=
  match i with
  | .reset link1 link0 bus1 bus0 => Sys2Proof.Machine.execReset link1 link0 bus1 bus0 s
  | .secondTick => Sys2Proof.Machine.execSecondTick s
  | .minuteTick => Sys2Proof.Machine.execMinuteTick s
  | .frameReceived chars => Sys2Proof.Machine.execFrameReceived chars s
  | .interCharacterTimeout => Sys2Proof.Machine.execInterCharacterTimeout s
  | .brokenCharacter => Sys2Proof.Machine.execBrokenCharacter s
  | .frameSent => Sys2Proof.Machine.execFrameSent s
  | .badTypeRequest type tag payload => Sys2Proof.Machine.execBadTypeRequest type tag payload s
  | .start tag payload => Sys2Proof.Machine.execStart tag payload s
  | .stop tag payload => Sys2Proof.Machine.execStop tag payload s
  | .configure tag payload => Sys2Proof.Machine.execConfigure tag payload s
  | .setClock tag payload => Sys2Proof.Machine.execSetClock tag payload s
  | .setLanes tag payload => Sys2Proof.Machine.execSetLanes tag payload s
  | .setBayService tag payload => Sys2Proof.Machine.execSetBayService tag payload s
  | .setClass tag payload => Sys2Proof.Machine.execSetClass tag payload s
  | .setLampPlan tag payload => Sys2Proof.Machine.execSetLampPlan tag payload s
  | .setSeverity tag payload => Sys2Proof.Machine.execSetSeverity tag payload s
  | .setScanList tag payload => Sys2Proof.Machine.execSetScanList tag payload s
  | .setParameters tag payload => Sys2Proof.Machine.execSetParameters tag payload s
  | .setBudget tag payload => Sys2Proof.Machine.execSetBudget tag payload s
  | .setWeather tag payload => Sys2Proof.Machine.execSetWeather tag payload s
  | .setNoticeMask tag payload => Sys2Proof.Machine.execSetNoticeMask tag payload s
  | .addDeparture tag payload => Sys2Proof.Machine.execAddDeparture tag payload s
  | .cancelDeparture tag payload => Sys2Proof.Machine.execCancelDeparture tag payload s
  | .listDepartures tag payload => Sys2Proof.Machine.execListDepartures tag payload s
  | .queryBay tag payload => Sys2Proof.Machine.execQueryBay tag payload s
  | .setBayClass tag payload => Sys2Proof.Machine.execSetBayClass tag payload s
  | .holdBay tag payload => Sys2Proof.Machine.execHoldBay tag payload s
  | .releaseBay tag payload => Sys2Proof.Machine.execReleaseBay tag payload s
  | .waiveHeat tag payload => Sys2Proof.Machine.execWaiveHeat tag payload s
  | .waiveLamp tag payload => Sys2Proof.Machine.execWaiveLamp tag payload s
  | .waiveFault tag payload => Sys2Proof.Machine.execWaiveFault tag payload s
  | .startLampCheck tag payload => Sys2Proof.Machine.execStartLampCheck tag payload s
  | .cancelLampCheck tag payload => Sys2Proof.Machine.execCancelLampCheck tag payload s
  | .readLampResult tag payload => Sys2Proof.Machine.execReadLampResult tag payload s
  | .readFaults tag payload => Sys2Proof.Machine.execReadFaults tag payload s
  | .refreshFaults tag payload => Sys2Proof.Machine.execRefreshFaults tag payload s
  | .clearPartFault tag payload => Sys2Proof.Machine.execClearPartFault tag payload s
  | .ackOverdue tag payload => Sys2Proof.Machine.execAckOverdue tag payload s
  | .identify tag payload => Sys2Proof.Machine.execIdentify tag payload s
  | .queryDepot tag payload => Sys2Proof.Machine.execQueryDepot tag payload s
  | .queryGrants tag payload => Sys2Proof.Machine.execQueryGrants tag payload s
  | .gateHold tag payload => Sys2Proof.Machine.execGateHold tag payload s
  | .gateRelease tag payload => Sys2Proof.Machine.execGateRelease tag payload s
  | .gatePinChange high => Sys2Proof.Machine.execGatePinChange high s
  | .gateDebounceExpiry => Sys2Proof.Machine.execGateDebounceExpiry s
  | .scanStatusReadOutcome attempts => Sys2Proof.Machine.execScanStatusReadOutcome attempts s
  | .relaySendOutcome attempts => Sys2Proof.Machine.execRelaySendOutcome attempts s
  | .pollOutcome attempts => Sys2Proof.Machine.execPollOutcome attempts s
  | .relayFetchOutcome attempts => Sys2Proof.Machine.execRelayFetchOutcome attempts s
  | .sampleBlockOutcome attempts => Sys2Proof.Machine.execSampleBlockOutcome attempts s
  | .setOutputsOutcome attempts => Sys2Proof.Machine.execSetOutputsOutcome attempts s
  | .allSafeEnd => Sys2Proof.Machine.execAllSafeEnd s
  | .waitLimitExpiry => Sys2Proof.Machine.execWaitLimitExpiry s
  | .stuckRecheck high => Sys2Proof.Machine.execStuckRecheck high s
  | .stuckLineLimit => Sys2Proof.Machine.execStuckLineLimit s
  | .scanRequestPromotion => Sys2Proof.Machine.execScanRequestPromotion s
  | .roundStart => Sys2Proof.Machine.execRoundStart s
  | .roundSlowLimit => Sys2Proof.Machine.execRoundSlowLimit s
  | .pollDue bay => Sys2Proof.Machine.execPollDue bay s
  | .relayTimeLimit bay => Sys2Proof.Machine.execRelayTimeLimit bay s
  | .weatherStale => Sys2Proof.Machine.execWeatherStale s
  | .regrantWaitExpiry bay => Sys2Proof.Machine.execRegrantWaitExpiry bay s
  | .closingStaggerExpiry => Sys2Proof.Machine.execClosingStaggerExpiry s
  | .noLoadLimit bay => Sys2Proof.Machine.execNoLoadLimit bay s
  | .contactorStuckLimit bay => Sys2Proof.Machine.execContactorStuckLimit bay s
  | .orphanDelayExpiry bay => Sys2Proof.Machine.execOrphanDelayExpiry bay s
  | .settleTimeExpiry ctx => Sys2Proof.Machine.execSettleTimeExpiry ctx s
  | .overdueExpiry bay => Sys2Proof.Machine.execOverdueExpiry bay s
  | .lenOutOfRange len => Sys2Proof.Machine.execLenOutOfRange len s

end Sys2Proof.Machine
end

