-- ==== Sys2Proof/Safety.lean ====
section
/-! DEFINITION. What a sound state is, law by law, and the words that claims about commands use: which blocks a command
may change, and how its reply stands. -/

namespace Sys2Proof.Safety

open Sys2Proof.Machine

/-! ### The laws of a sound state -/

/-- R108: the heater powers of the live grants never sum to more than the effective budget. -/
def BudgetLaw (s : State) : Prop := liveLoad s ≤ s.pal.budget

/-- R104: a bay holds at most one grant. -/
def OneGrantLaw (s : State) : Prop := (s.pal.grants.map (·.bay)).Nodup

/-- R113, R114: a grant in PENDING_CLOSE waits in the closing queue, and when its close has been issued that close is
outstanding; the queue holds these grants and the RELEASING one whose close is outstanding. -/
def ClosingLaw (s : State) : Prop :=
  (∀ g ∈ s.pal.grants, g.state = .pendingClose →
    g.bay ∈ s.pal.closing ∧ (g.issued = true → s.pal.outstanding = some g.bay)) ∧
  ∀ b ∈ s.pal.closing, ∃ g ∈ s.pal.grants, g.bay = b ∧
    (g.state = .pendingClose ∨ (g.state = .releasing ∧ s.pal.outstanding = some b))

/-- R106, R107: a bay whose re-grant wait runs holds no grant. -/
def RegrantLaw (s : State) : Prop := ∀ b : Bay, s.pal.bays[b].regrant.isSome = true → grantOf b s = none

/-- R150: the free records and the records in all chains number 256, and no chain holds more than 16. -/
def PoolLaw (s : State) : Prop :=
  s.frs.free + (s.frs.bays.toList.map (·.chain.length)).sum = 256 ∧
    ∀ b : Bay, s.frs.bays[b].chain.length ≤ 16

/-- R170: at most 64 entries in stored order, with ids 1 to 255, each once. -/
def TimetableLaw (s : State) : Prop :=
  s.dpc.entries.length ≤ 64 ∧ (s.dpc.entries.map (·.id)).Nodup ∧
    s.dpc.entries.Pairwise (fun a e => a.minute < e.minute ∨ (a.minute = e.minute ∧ a.id < e.id)) ∧
    ∀ e ∈ s.dpc.entries, 1 ≤ e.id ∧ e.id ≤ 255 ∧ e.minute ≤ 1439

/-- R173: a bay's current entry is an entry of the timetable for that bay, and no other entry of it is CALLED or CLEARED. -/
def CurrentLaw (s : State) : Prop :=
  (∀ b : Bay, ∀ id ∈ s.dpc.bays[b].cur, ∃ e ∈ s.dpc.entries, e.id = id ∧ e.bay = b) ∧
    ∀ e ∈ s.dpc.entries, e.state = .called ∨ e.state = .cleared → s.dpc.bays[e.bay].cur = some e.id

/-- R4: a bay is in at most one lane and at most once in it, and a lane has at most 8 bays. -/
def LaneLaw (s : State) : Prop :=
  s.dpc.lanes.toList.flatten.Nodup ∧ ∀ l ∈ s.dpc.lanes.toList, l.length ≤ 8

/-- R192, R202: outside RUN no bay is READY, RELEASING or CLEARED, and every HELD bay is held by MODE; R3: a bay out of
service is EMPTY or STANDING. -/
def ModeLaw (s : State) : Prop :=
  ∀ b : Bay,
    (s.clu.mode ≠ .run → s.dpc.bays[b].state = .empty ∨ s.dpc.bays[b].state = .standing ∨
      (s.dpc.bays[b].state = .held ∧ hasHold s.dpc.bays[b].holds .mode = true)) ∧
    (s.dpc.bays[b].inService = false → s.dpc.bays[b].state = .empty ∨ s.dpc.bays[b].state = .standing)

/-- R179: while a bay is CLEARED its path is clear and the gate line reads RELEASED. -/
def ClearedLaw (s : State) : Prop :=
  ∀ b : Bay, s.dpc.bays[b].state = .cleared → pathClear b s = true ∧ s.dpc.readingReleased = true

/-- R182 to R184: a HELD bay has a hold reason and a return state, and no other bay has either. -/
def HoldLaw (s : State) : Prop :=
  ∀ b : Bay,
    (s.dpc.bays[b].state = .held → s.dpc.bays[b].holds ≠ 0 ∧ (s.dpc.bays[b].ret = some .ready ∨
      s.dpc.bays[b].ret = some .releasing ∨ s.dpc.bays[b].ret = some .cleared)) ∧
    (s.dpc.bays[b].state ≠ .held → s.dpc.bays[b].holds = 0 ∧ s.dpc.bays[b].ret = none)

/-- R188: the overdue count is at most 255, and it is 0 and the timer is stopped for a bay that is neither CLEARED nor HELD
from CLEARED. -/
def OverdueLaw (s : State) : Prop :=
  ∀ b : Bay, s.dpc.bays[b].overdueCount ≤ 255 ∧
    (s.dpc.bays[b].onTheWay = false → s.dpc.bays[b].overdueCount = 0 ∧ s.dpc.bays[b].overdue = none)

/-- R182: no unwaived BLOCKING record, FAULTS_INCOMPLETE and READ_STALE clear. -/
def chainAllows (f : FaultBay) : Bool :=
  !(f.chain.any fun r => r.severity == .blocking && !r.waived) && !f.causes.any && !f.stale

/-- R182: the chain of a bay in READY, RELEASING or CLEARED, or HELD without the FAULT reason, allows it to leave. -/
def FaultLaw (s : State) : Prop :=
  ∀ b : Bay,
    (s.dpc.bays[b].state = .ready ∨ s.dpc.bays[b].state = .releasing ∨ s.dpc.bays[b].state = .cleared ∨
      (s.dpc.bays[b].state = .held ∧ hasHold s.dpc.bays[b].holds .fault = false)) →
    chainAllows s.frs.bays[b] = true

/-- R191: every output image carries the aspect of the bay's clearance state and the wanted supply. -/
def SignalLaw (s : State) : Prop :=
  ∀ b : Bay, s.pbc.images[b].aspect = s.dpc.bays[b].state.aspect ∧ s.pbc.images[b].supplyOn = wantedSupply b s

/-- The bays of the busy contexts. -/
def ctxBays (s : State) : List Bay := s.lce.ctxs.toList.filterMap fun x => x.map (·.bay)

/-- R133: a bay appears at most once across the lamp queue and the contexts together. -/
def LampLaw (s : State) : Prop := (s.lce.queue ++ ctxBays s).Nodup

/-- R197: at most 4 requests wait in the receive queue. -/
def ReceiveLaw (s : State) : Prop := s.clu.rxQueue.length ≤ 4

/-- A sound state: every law holds. -/
structure Sound (s : State) : Prop where
  budget : BudgetLaw s
  oneGrant : OneGrantLaw s
  closing : ClosingLaw s
  regrant : RegrantLaw s
  pool : PoolLaw s
  timetable : TimetableLaw s
  current : CurrentLaw s
  lanes : LaneLaw s
  modes : ModeLaw s
  cleared : ClearedLaw s
  holds : HoldLaw s
  overdue : OverdueLaw s
  faults : FaultLaw s
  signals : SignalLaw s
  lamps : LampLaw s
  receive : ReceiveLaw s

/-! ### Which blocks change -/

/-- The parts of State that commands change. -/
inductive Block where
  | clk | clu | params | pbc | scs | clr | hpl | pal | lce | frs | dpc
deriving DecidableEq, Repr

/-- Only the listed blocks may differ between `s` and `t`, and the commands that wait are the same. -/
def ChangesOnly (ks : List Block) (s t : State) : Prop :=
  (.clk ∉ ks → t.clk = s.clk) ∧ (.clu ∉ ks → t.clu = s.clu) ∧ (.params ∉ ks → t.params = s.params) ∧
    (.pbc ∉ ks → t.pbc = s.pbc) ∧ (.scs ∉ ks → t.scs = s.scs) ∧ (.clr ∉ ks → t.clr = s.clr) ∧
    (.hpl ∉ ks → t.hpl = s.hpl) ∧ (.pal ∉ ks → t.pal = s.pal) ∧ (.lce ∉ ks → t.lce = s.lce) ∧
    (.frs ∉ ks → t.frs = s.frs) ∧ (.dpc ∉ ks → t.dpc = s.dpc) ∧ t.pending = s.pending

/-- What the CLU keeps whatever frames and notices pass: link rate, receiver, receive queue, mask and class records. -/
def LinkKept (s t : State) : Prop :=
  t.clu.linkRate = s.clu.linkRate ∧ t.clu.receiver = s.clu.receiver ∧ t.clu.rxQueue = s.clu.rxQueue ∧
    t.clu.mask = s.clu.mask ∧ t.clu.classes = s.clu.classes

/-- What no timer, pin, bus or tick command changes: everything the depot computer sets. -/
def SettingsKept (s t : State) : Prop :=
  t.clu.mode = s.clu.mode ∧ t.clk.isSet = s.clk.isSet ∧ t.params = s.params ∧ LinkKept s t ∧
    t.pbc.bitRate = s.pbc.bitRate ∧ t.scs.setList = s.scs.setList ∧ t.hpl.weather.value = s.hpl.weather.value ∧
    t.pal.schedule = s.pal.schedule ∧ t.lce.plans = s.lce.plans ∧ t.frs.table = s.frs.table ∧
    t.frs.staging = s.frs.staging ∧ t.frs.stagingTotal = s.frs.stagingTotal ∧ t.dpc.lanes = s.dpc.lanes ∧
    t.dpc.latchReleased = s.dpc.latchReleased ∧ ∀ b : Bay, t.dpc.bays[b].inService = s.dpc.bays[b].inService

/-! ### Replies -/

/-- `s` with one more reply that waits for the transmitter. -/
def queueReply (f : Frame) (s : State) : State := { s with clu := { s.clu with replies := s.clu.replies ++ [f] } }

/-- R198, R40, R209: `s` with the reply of a request waiting, after the idle arbiter and the idle transmitter have
chosen. -/
def answered (type tag : Byte) (r : Result) (content : List Byte) (s : State) : State :=
  finish (queueReply (replyFrame type tag ⟨r, content⟩) s)

/-- R198, R209: the reply waits or is being sent. -/
def Replied (type tag : Byte) (r : Result) (content : List Byte) (t : State) : Prop :=
  replyFrame type tag ⟨r, content⟩ ∈ t.clu.replies ∨ t.clu.tx = .reply (replyFrame type tag ⟨r, content⟩)

/-- The byte that names a bay, R1. -/
def bayCode (b : Bay) : Byte := BitVec.ofNat 8 (bayNum b)

/-- Section 10.7: the payload of a notice of a kind, for its bay when the kind has one. -/
def noticePayload (n : NoticeKind × Option Bay) (s : State) : List Byte :=
  match n.2, n.1 with
  | some b, k => bayNotice k b s
  | none, .budgetExceeded => budgetNotice s
  | none, .gate => gateNotice s
  | none, _ => entryNotice s

/-- R209: no notice of the kind is ready to send. -/
def NoneReady (k : NoticeKind) (s : State) : Prop :=
  if k.depotWide then hasKind s.clu.depotPending k = false else ∀ b : Bay, bayReady k b s = false

/-- R27, R30: returned bytes with the check byte that makes them sum to 0 modulo 256. -/
def checked (bs : List Byte) : List Byte := bs ++ [0 - bs.foldl (· + ·) 0]

/-- Section 10.4: the payload of SET LANES for lane numbers with their bays, front to back. -/
def lanesPayload (ls : List (Byte × List Byte)) : List Byte :=
  u8 ls.length ++ ls.flatMap fun l => l.1 :: (u8 l.2.length ++ l.2)

/-- R104, R112: a grant as admission creates it for a bay. -/
def admitted (b : Bay) (s : State) : Grant :=
  { bay := b, power := candidatePower b s, levelAtAdmission := level b s, admissionTod := s.clk.tod
    admissionTick := s.clk.ticks, state := .pendingClose, changeTod := s.clk.tod, issued := false, closeAck := none
    openOutcome := .none, openAck := none, overload := 0, stuckRecorded := false, orphanedAt := none }

/-- R105: a live grant after its release. -/
def opened (tod : Nat) (g : Grant) : Grant :=
  { g with state := .releasing, changeTod := tod, issued := false, openOutcome := .none, openAck := none
           stuckRecorded := false }

/-- R105: a grant list after the release of some of its live grants: those whose close was not issued have left it. -/
def shedGrants (tod : Nat) (out gs : List Grant) : List Grant :=
  gs.filterMap fun g =>
    if g ∉ out then some g
    else if g.state = .pendingClose ∧ g.issued = false then none
    else some (opened tod g)

/-- R161: `x`, with the records `before` it in its chain, is the record that a new one of severity `v` replaces. -/
def Replaces (v : Severity) (chain before : List FaultRec) (x : FaultRec) : Prop :=
  (v ≠ .advisory ∧ x.severity = .advisory ∧ ∀ y ∈ before, y.severity ≠ .advisory) ∨
    (v = .blocking ∧ x.severity = .restrict ∧ (∀ y ∈ chain, y.severity ≠ .advisory) ∧
      ∀ y ∈ before, y.severity ≠ .restrict)

/-- R161: `r`, BLOCKING, RESTRICT or ADVISORY, has been inserted into a bay's chain: stored while there is space, else in the
place of another record of the chain, else dropped. -/
def Inserted (r : FaultRec) (free : Nat) (f : FaultBay) (free' : Nat) (f' : FaultBay) : Prop :=
  (f.chain.length < 16 → 0 < free → f' = { f with chain := f.chain ++ [r] } ∧ free' = free - 1) ∧
  (16 ≤ f.chain.length ∨ free = 0 → free' = free ∧
    (∀ before x after, f.chain = before ++ x :: after → Replaces r.severity f.chain before x →
      f' = { f with chain := before ++ after ++ [r] }) ∧
    (r.severity = .advisory ∨ ((∀ y ∈ f.chain, y.severity ≠ .advisory) ∧
        (r.severity = .blocking → ∀ y ∈ f.chain, y.severity ≠ .restrict)) →
      f' = { f with
        dropped := min 255 (f.dropped + 1)
        causes := match r.origin with
          | .coach => { f.causes with read := true }
          | .lamp => { f.causes with lamp := true }
          | .heater => { f.causes with heater := true } }))

/-- `p` holds after every step from a state in which it holds. -/
def KeptByStep (p : State → Prop) : Prop := ∀ s : State, p s → ∀ t : State, step s = .next t → p t

/-- Section 10.4: the payload size of the requests whose layout fixes one. -/
def fixedSize : Nat → Option Nat
  | 0x01 | 0x02 | 0x03 | 0x30 | 0x32 | 0x33 => some 0
  | 0x19 | 0x1A | 0x20 | 0x22 | 0x23 | 0x24 | 0x25 | 0x27 | 0x28 | 0x29 | 0x2A | 0x2B | 0x2D | 0x2E | 0x31 => some 1
  | 0x0A | 0x11 | 0x12 | 0x21 | 0x2C => some 2
  | 0x08 | 0x26 => some 3
  | 0x0F => some 13
  | 0x18 => some 15
  | 0x0B => some 19
  | _ => none

end Sys2Proof.Safety
end

