-- ==== Sys2Proof/WellFormed.lean ====
section
/-! DEFINITION. Which commands are well formed: the frames and bus outcomes that the link, the queue of requests and the
pedestal bus can bring about. `exec` gives every command a meaning, the ill-formed ones too. -/

namespace Sys2Proof

/-- The TYPE, TAG and payload of a request command, by the catalogue of section 10.4; none for the other commands. -/
def Instr.request : Instr → Option (Byte × Byte × List Byte)
  | .start g p => some (0x01, g, p)
  | .stop g p => some (0x02, g, p)
  | .configure g p => some (0x03, g, p)
  | .setClock g p => some (0x08, g, p)
  | .setLanes g p => some (0x09, g, p)
  | .setBayService g p => some (0x0A, g, p)
  | .setClass g p => some (0x0B, g, p)
  | .setLampPlan g p => some (0x0C, g, p)
  | .setSeverity g p => some (0x0D, g, p)
  | .setScanList g p => some (0x0E, g, p)
  | .setParameters g p => some (0x0F, g, p)
  | .setBudget g p => some (0x10, g, p)
  | .setWeather g p => some (0x11, g, p)
  | .setNoticeMask g p => some (0x12, g, p)
  | .addDeparture g p => some (0x18, g, p)
  | .cancelDeparture g p => some (0x19, g, p)
  | .listDepartures g p => some (0x1A, g, p)
  | .queryBay g p => some (0x20, g, p)
  | .setBayClass g p => some (0x21, g, p)
  | .holdBay g p => some (0x22, g, p)
  | .releaseBay g p => some (0x23, g, p)
  | .waiveHeat g p => some (0x24, g, p)
  | .waiveLamp g p => some (0x25, g, p)
  | .waiveFault g p => some (0x26, g, p)
  | .startLampCheck g p => some (0x27, g, p)
  | .cancelLampCheck g p => some (0x28, g, p)
  | .readLampResult g p => some (0x29, g, p)
  | .readFaults g p => some (0x2A, g, p)
  | .refreshFaults g p => some (0x2B, g, p)
  | .clearPartFault g p => some (0x2C, g, p)
  | .ackOverdue g p => some (0x2D, g, p)
  | .identify g p => some (0x2E, g, p)
  | .queryDepot g p => some (0x30, g, p)
  | .queryGrants g p => some (0x31, g, p)
  | .gateHold g p => some (0x32, g, p)
  | .gateRelease g p => some (0x33, g, p)
  | .reset _ _ _ _ | .secondTick | .minuteTick | .frameReceived _ | .interCharacterTimeout | .brokenCharacter
  | .frameSent | .badTypeRequest _ _ _ | .gatePinChange _ | .gateDebounceExpiry | .scanStatusReadOutcome _
  | .relaySendOutcome _ | .pollOutcome _ | .relayFetchOutcome _ | .sampleBlockOutcome _ | .setOutputsOutcome _
  | .allSafeEnd | .waitLimitExpiry | .stuckRecheck _ | .stuckLineLimit | .scanRequestPromotion | .roundStart
  | .roundSlowLimit | .pollDue _ | .relayTimeLimit _ | .weatherStale | .regrantWaitExpiry _ | .closingStaggerExpiry
  | .noLoadLimit _ | .contactorStuckLimit _ | .orphanDelayExpiry _ | .settleTimeExpiry _ | .overdueExpiry _
  | .lenOutOfRange _ => none

/-- Section 10.4: the TYPE bytes of the catalogue. -/
def catalogue : List Nat :=
  [0x01, 0x02, 0x03, 0x08, 0x09, 0x0A, 0x0B, 0x0C, 0x0D, 0x0E, 0x0F, 0x10, 0x11, 0x12, 0x18, 0x19, 0x1A] ++
    [0x20, 0x21, 0x22, 0x23, 0x24, 0x25, 0x26, 0x27, 0x28, 0x29, 0x2A, 0x2B, 0x2C, 0x2D, 0x2E] ++
    [0x30, 0x31, 0x32, 0x33]

/-- R196, R197: a request that the queue can hold has TAG 1 to 255 and at most 248 bytes of payload. -/
def requestOk (tag : Byte) (payload : List Byte) : Bool := tag != 0 && decide (payload.length ≤ 248)

/-- R33: one or two attempts; R29, R30: an attempt returns at most 64 bytes. -/
def attemptsOk (attempts : List Attempt) : Bool :=
  decide (1 ≤ attempts.length ∧ attempts.length ≤ 2) &&
    attempts.all fun a => match a with | .done bytes => decide (bytes.length ≤ 64) | _ => true

/-- Well-formed commands. -/
def Instr.wellFormed (i : Instr) : Bool :=
  match i.request with
  | some (_, tag, payload) => requestOk tag payload
  | none =>
    match i with
    | .badTypeRequest type tag payload =>
      requestOk tag payload && decide (1 ≤ type.toNat ∧ type.toNat ≤ 0x3F) && !catalogue.contains type.toNat
    | .frameReceived chars => !chars.isEmpty
    | .lenOutOfRange len => decide (len.toNat < 2 ∨ 250 < len.toNat)
    | .scanStatusReadOutcome as | .relaySendOutcome as | .pollOutcome as | .relayFetchOutcome as
    | .sampleBlockOutcome as | .setOutputsOutcome as => attemptsOk as
    | _ => true

end Sys2Proof
end

