-- ==== Sys2Proof/Certificates/Slice0/Obligations.lean ====
section
/-! DEFINITION. The statements for the provers. In each, `w` stands for `wake s`: the state once the first round after
reset has started (R63, log 10), which is `s` itself from the first event on. A request's next state is written
`answered … u`: `u` with the reply waiting, after the idle arbiter and the idle transmitter have chosen (logs 1, 9); an
event's is `finish u`. A limit of milliseconds that runs out carries the elapsed count to its due moment (log 4). -/

open Sys2Proof Sys2Proof.Machine Sys2Proof.Safety

/-! ### The machine -/

/-- The block's frame: a step with the command `c` at the front of the queue is `exec c` on the state with the queue's
rest. -/
def Obligations.FrontCommandRuns : Prop :=
  ∀ (c : Instr) (rest : List Instr) (s : State),
    s.pending = c :: rest → step s = exec c { s with pending := rest }

/-- The model's choice of log 3: with no command waiting a step is one millisecond of elapsed time (R15), and nothing
else changes once the first round has started. -/
def Obligations.IdleStepCountsAMillisecond : Prop :=
  ∀ s : State, s.pending = [] →
    step s = .next { wake s with clk := { s.clk with now := s.clk.now + 1 } }

/-- No command stops the part, and `exec` leaves the queue of commands alone. -/
def Obligations.EveryCommandAnswers : Prop :=
  ∀ (c : Instr) (s : State), ∃ t, exec c s = .next t ∧ t.pending = s.pending

/-- R13, R47, R63, R81, R82, R128, R149, R169, R194, R203, R211: what RESET leaves in every block. -/
def Obligations.ResetRestoresTheTables : Prop :=
  ∀ (link1 link0 bus1 bus0 : Bool) (s : State), ∃ t, exec (.reset link1 link0 bus1 bus0) s = .next t ∧
    t.pending = s.pending ∧
    (t.clk.tod = 0 ∧ t.clk.isSet = false) ∧
    (t.clu.mode = .config ∧ t.clu.receiver = .hunting ∧ t.clu.rxQueue = [] ∧ t.clu.replies = [] ∧ t.clu.tx = .idle ∧
      t.clu.depotPending = 0 ∧ t.clu.entryIds = [] ∧ (∀ i : Fin 15, t.clu.mask[i] = true) ∧
      (∀ b : Bay, t.clu.pending[b] = 0 ∧ t.clu.sendMark[b] = false) ∧ ∀ i : Fin 8, t.clu.classes[i] = none) ∧
    t.params = ⟨20, 10, 15, 3, 20, 3, 10, 10, 400, 30, 12, true⟩ ∧
    (t.pbc.line = .normal ∧ t.pbc.current = none ∧ t.pbc.class2 = [] ∧ t.pbc.class3 = [] ∧ t.pbc.scanReq = none ∧
      t.pbc.outQ = [] ∧
      t.pbc.broadcast = true ∧ ∀ b : Bay, t.pbc.images[b] = ⟨false, false, .dark⟩ ∧ t.pbc.health[b] = ⟨.unseen, 0⟩ ∧
        t.pbc.lastAck[b] = none) ∧
    (t.scs.setList = [] ∧ t.scs.pos = 0 ∧ t.scs.round = .starting ∧ t.scs.slow = false ∧ t.scs.lastDuration = 0 ∧
      ∀ b : Bay, t.scs.reports[b] = ⟨false, false, false, .dark, false, false, 0, true, none, none, false, false⟩) ∧
    (∀ b : Bay, t.clr.slots[b].state = .idle ∧ t.clr.slots[b].requester = none ∧ t.clr.slots[b].message = none ∧
      t.clr.slots[b].sendAck = none ∧ t.clr.slots[b].clearing = false ∧ t.clr.slots[b].abandoned = false ∧
      t.clr.slots[b].waiting = ⟨false, false, false⟩ ∧ t.clr.slots[b].ended = 0 ∧ t.clr.idents[b] = ⟨none, 0, .none⟩) ∧
    (t.hpl.weather = ⟨none, none, false⟩ ∧
      ∀ b : Bay, t.hpl.plans[b] = ⟨0, 0, .none, false, false, 0, none, none, none, none, none, none, none, none⟩) ∧
    (t.pal.schedule = [] ∧ t.pal.budget = 0 ∧ t.pal.grants = [] ∧ t.pal.closing = [] ∧ t.pal.outstanding = none ∧
      t.pal.lastCloseAck = none ∧ t.pal.urgentPtr = 0 ∧ t.pal.normalPtr = 0 ∧ t.pal.excess = 0 ∧ t.pal.meterSum = 0 ∧
      ∀ b : Bay, t.pal.bays[b] = ⟨none, false, none, false, 0⟩ ∧ heatState b t = .off) ∧
    ((∀ i : Fin 8, t.lce.plans[i] = []) ∧ t.lce.queue = [] ∧ (∀ c : CtxId, t.lce.ctxs[c] = none) ∧
      ∀ b : Bay, t.lce.results[b] = none ∧ t.lce.waivers[b] = false ∧ lampStatus b t = .none) ∧
    (t.frs.free = 256 ∧ t.frs.table = [] ∧ t.frs.staging = [] ∧ t.frs.stagingTotal = none ∧
      ∀ b : Bay, t.frs.bays[b].chain = [] ∧ t.frs.bays[b].dropped = 0 ∧ t.frs.bays[b].causes.any = false ∧
        t.frs.bays[b].stale = false ∧ t.frs.bays[b].complete = false ∧ t.frs.bays[b].lastRead = none ∧
        t.frs.bays[b].endOfRead = none ∧ t.frs.bays[b].readState = .idle ∧ faultCondition b t = false) ∧
    (t.dpc.entries = [] ∧ (∀ i : Fin 8, t.dpc.lanes[i] = []) ∧ t.dpc.latchReleased = false ∧
      t.dpc.readingReleased = false ∧
      ∀ b : Bay, t.dpc.bays[b] = ⟨true, .empty, none, 0, none, none, 0, false, none, false, none, false⟩ ∧
        wantedSupply b t = false)

/-- R20, R195: RESET samples the straps, no other command changes the rates, and QUERY DEPOT reports them with the bus
line state. -/
def Obligations.StrapsSetTheRates : Prop :=
  (∀ (link1 link0 bus1 bus0 : Bool) (s : State), ∃ t, exec (.reset link1 link0 bus1 bus0) s = .next t ∧
    t.clu.linkRate = (match link1, link0 with
      | false, false => .baud19200 | false, true => .baud57600 | true, false => .baud115200 | true, true => .baud230400) ∧
    t.pbc.bitRate = (match bus1, bus0 with
      | false, false => .kbit31 | false, true => .kbit62 | true, false => .kbit125 | true, true => .kbit31)) ∧
  (∀ (c : Instr) (s t : State), exec c s = .next t → (match c with | .reset _ _ _ _ => false | _ => true) = true →
    t.clu.linkRate = s.clu.linkRate ∧ t.pbc.bitRate = s.pbc.bitRate) ∧
  ∀ s : State, ((depotReply s).drop 5).take 3 =
    u8 s.clu.linkRate.code ++ u8 s.pbc.bitRate.code ++ flag (decide (s.pbc.line ≠ .normal))

/-- R31, R40, R47, R63: right after reset the broadcast is on the bus and the scan request for bay 1 waits, with the 32
bays in the round's list; when the broadcast has been sent, that request is on the bus. -/
def Obligations.FirstTransactionsAfterReset : Prop :=
  (wake State.reset).pbc.current = some ⟨.broadcast, none, .setOutputs ⟨false, false, .red⟩, false, false, .unseen, false⟩ ∧
  (wake State.reset).pbc.scanReq = some ⟨0, true, 0⟩ ∧
  (wake State.reset).scs.roundList = (List.finRange 32).map (fun b => ⟨b, true⟩) ∧
  ∃ t, exec .allSafeEnd State.reset = .next t ∧
    t.pbc.current = some ⟨.scan, some 0, .statusRead true, false, false, .unseen, false⟩ ∧ t.pbc.scanReq = none ∧
    t.clu.tx = .idle

/-! ### Laws that every step keeps -/

/-- Every law of a sound state holds right after reset. -/
def Obligations.LawsHoldAtReset : Prop := Sound State.reset

/-- R108: "the heater powers of all grants in PENDING_CLOSE, CONFIRMING and ACTIVE never sum to more than the effective
budget". -/
def Obligations.StepKeepsBudgetLaw : Prop := KeptByStep BudgetLaw

/-- R104: a bay holds at most one grant; R113, R114: what waits in the closing queue; R106: no grant for a bay whose
re-grant wait runs. -/
def Obligations.StepKeepsGrantLaws : Prop :=
  KeptByStep OneGrantLaw ∧ (KeptByStep fun s => OneGrantLaw s ∧ ClosingLaw s) ∧ KeptByStep RegrantLaw

/-- R150: the free records and the records in all chains number 256, and no chain holds more than 16. -/
def Obligations.StepKeepsPoolLaw : Prop := KeptByStep PoolLaw

/-- R170: the timetable's capacity, order and unique ids; R173: a bay's current entry is its own, and no other entry of it
is CALLED or CLEARED. -/
def Obligations.StepKeepsTimetableLaw : Prop :=
  KeptByStep TimetableLaw ∧ KeptByStep fun s => TimetableLaw s ∧ CurrentLaw s

/-- R4, R179, R192: the lane table's form, the states that a mode and a service state allow, and a clear path under a
released gate for every CLEARED bay. -/
def Obligations.StepKeepsClearanceLaws : Prop :=
  KeptByStep fun s => LaneLaw s ∧ ModeLaw s ∧ ClearedLaw s

/-- R182 to R184, R188: hold reasons and return state belong to HELD bays, and the overdue count and timer to bays that are
CLEARED or held from CLEARED. -/
def Obligations.StepKeepsHoldAndOverdueLaws : Prop := KeptByStep HoldLaw ∧ KeptByStep OverdueLaw

/-- R182: "A bay in READY, RELEASING or CLEARED has no unwaived BLOCKING record in its chain, and its FAULTS_INCOMPLETE
and READ_STALE flags are clear." -/
def Obligations.StepKeepsFaultLaw : Prop := KeptByStep FaultLaw

/-- R191, R179: every output image shows the aspect of its bay's state, so GREEN for a CLEARED bay alone, and the wanted
supply. -/
def Obligations.StepKeepsSignalLaw : Prop := KeptByStep SignalLaw

/-- R133, R197: a bay appears at most once across the lamp queue and the contexts together, and no more than 4 requests
wait in the receive queue. -/
def Obligations.StepKeepsQueueLaws : Prop := KeptByStep LampLaw ∧ KeptByStep ReceiveLaw

/-- R179: "hence no lane has more than one CLEARED bay". -/
def Obligations.OneClearedBayInALane : Prop :=
  ∀ s : State, LaneLaw s → ModeLaw s → ClearedLaw s → ∀ l ∈ s.dpc.lanes.toList, ∀ a ∈ l, ∀ b ∈ l,
    s.dpc.bays[a].state = .cleared → s.dpc.bays[b].state = .cleared → a = b

/-- What the depot computer sets, no event of the clock, the bus, the gate line or a limit changes. -/
def Obligations.EventsKeepSettings : Prop :=
  ∀ (c : Instr) (s t : State),
    exec c s = .next t →
    (match c with
     | .secondTick | .minuteTick | .gatePinChange _ | .gateDebounceExpiry | .scanStatusReadOutcome _
     | .relaySendOutcome _ | .pollOutcome _ | .relayFetchOutcome _ | .sampleBlockOutcome _ | .setOutputsOutcome _
     | .allSafeEnd | .waitLimitExpiry | .stuckRecheck _ | .stuckLineLimit | .scanRequestPromotion | .roundStart
     | .roundSlowLimit | .pollDue _ | .relayTimeLimit _ | .weatherStale | .regrantWaitExpiry _ | .closingStaggerExpiry
     | .noLoadLimit _ | .contactorStuckLimit _ | .orphanDelayExpiry _ | .settleTimeExpiry _ | .overdueExpiry _ => true
     | _ => false) = true →
    SettingsKept s t

/-! ### Frames, requests and the transmitter -/

/-- R196: a frame whose characters arrive whole, the receiver looking for SOF, is the frame that was sent. -/
def Obligations.FramesAreReadAsSent : Prop :=
  ∀ (f : Frame) (s : State), f.payload.length ≤ 248 → s.clu.receiver = .hunting →
    f.wire.foldl (fun s c => takeChar c s) s = queueFrame f s

/-- R196: a frame with one character after LEN changed is discarded, and nothing changes. -/
def Obligations.DamagedFramesAreDropped : Prop :=
  ∀ (f : Frame) (i : Nat) (c : Byte) (s : State), f.payload.length ≤ 248 → s.clu.receiver = .hunting →
    2 ≤ i → i < f.wire.length → f.wire[i]? ≠ some c →
    (f.wire.set i c).foldl (fun s c => takeChar c s) s = s

/-- R197, R198: a complete request joins the receive queue and the head is served when no reply waits or is being sent;
it waits otherwise; with 4 waiting, or with a TYPE outside 0x01 to 0x3F or TAG 0, the frame is discarded. -/
def Obligations.ReceivedRequestsAreServedOrWait : Prop :=
  ∀ (f : Frame) (s : State), let w := wake s
    f.payload.length ≤ 248 → w.clu.receiver = .hunting →
    ((1 ≤ f.type.toNat ∧ f.type.toNat ≤ 0x3F ∧ f.tag ≠ 0) ∧ w.clu.rxQueue.length < 4 ∧ replyFree w = false →
      exec (.frameReceived f.wire) s =
        .next (finish { w with clu := { w.clu with rxQueue := w.clu.rxQueue ++ [f] } })) ∧
    ((1 ≤ f.type.toNat ∧ f.type.toNat ≤ 0x3F ∧ f.tag ≠ 0) ∧ w.clu.rxQueue = [] ∧ replyFree w = true →
      exec (.frameReceived f.wire) s =
        .next (answered f.type f.tag (serve f w).2.result (serve f w).2.content (serve f w).1)) ∧
    (¬(1 ≤ f.type.toNat ∧ f.type.toNat ≤ 0x3F ∧ f.tag ≠ 0) ∨ 4 ≤ w.clu.rxQueue.length →
      exec (.frameReceived f.wire) s = .next (finish w))

/-- R196: what begins a frame, and what abandons one; an abandoned frame changes nothing. That LEN_OUT_OF_RANGE anywhere but
right after SOF changes nothing is the model's reading (DEDUCED, log 49). -/
def Obligations.FramesBeginAndAreAbandoned : Prop :=
  ∀ s : State, let w := wake s
    (w.clu.receiver = .hunting → ∀ c : Byte,
      exec (.frameReceived [c]) s = .next (finish (if c = 0x7E then setReceiver (.frame []) w else w))) ∧
    exec .interCharacterTimeout s = .next (finish { w with clu := { w.clu with receiver := .hunting } }) ∧
    exec .brokenCharacter s = .next (finish { w with clu := { w.clu with receiver := .hunting } }) ∧
    ∀ len : Byte, len.toNat < 2 ∨ 250 < len.toNat →
      (w.clu.receiver = .frame [] → exec (.lenOutOfRange len) s =
        .next (finish { w with clu := { w.clu with receiver := .hunting } }) ∧
        exec (.frameReceived [len]) s = .next (finish { w with clu := { w.clu with receiver := .hunting } })) ∧
      (w.clu.receiver ≠ .frame [] → exec (.lenOutOfRange len) s = .next (finish w))

/-- The model's choice of log 1: a request command is served like the same frame taken from the receive queue, and one of
TAG 0 is discarded (R197). -/
def Obligations.RequestCommandsAreServed : Prop :=
  ∀ (c : Instr) (s : State), ∀ q ∈ c.request,
    let r := serve ⟨q.1, q.2.1, q.2.2⟩ (wake s)
    exec c s = .next (if q.2.1 = 0 then finish (wake s) else answered q.1 q.2.1 r.2.result r.2.content r.1)

/-- R198: "A refused request changes nothing in any block, and the reply carries the result alone." -/
def Obligations.RefusedRequestsChangeNothing : Prop :=
  ∀ (f : Frame) (s : State), (serve f s).2.result ≠ .ok → (serve f s).2.result ≠ .clamped →
    (serve f s).1 = s ∧ (serve f s).2.content = []

/-- R198 steps 1 and 2, R1: a TYPE that is not in the catalogue, a payload whose size is not the layout's or not the one
its own counts imply, one too short to hold them, and a bay outside 1 to 32 are refused and change nothing. -/
def Obligations.RequestsAreCheckedFirst : Prop :=
  (∀ (type tag : Byte) (payload : List Byte) (s : State), tag ≠ 0 →
    1 ≤ type.toNat → type.toNat ≤ 0x3F → ¬ type.toNat ∈ catalogue →
    exec (.badTypeRequest type tag payload) s = .next (answered type tag .badType [] (wake s))) ∧
  (∀ (f : Frame) (s : State), ∀ n ∈ fixedSize f.type.toNat, f.payload.length ≠ n →
    serve f s = (s, ⟨.badLength, []⟩)) ∧
  (∀ (tag c n : Byte) (rest : List Byte) (s : State),
    (rest.length ≠ 5 * n.toNat → serve ⟨0x0C, tag, c :: n :: rest⟩ s = (s, ⟨.badLength, []⟩)) ∧
    (rest.length ≠ 2 * n.toNat → serve ⟨0x0E, tag, n :: rest⟩ s = (s, ⟨.badLength, []⟩)) ∧
    (rest.length ≠ 4 * n.toNat → serve ⟨0x10, tag, n :: rest⟩ s = (s, ⟨.badLength, []⟩)) ∧
    (rest.length % 5 ≠ 0 ∨ 5 * 48 < rest.length → serve ⟨0x0D, tag, c :: n :: rest⟩ s = (s, ⟨.badLength, []⟩))) ∧
  (∀ (tag c : Byte) (s : State),
    (∀ type ∈ [0x09#8, 0x0C#8, 0x0D#8, 0x0E#8, 0x10#8], serve ⟨type, tag, []⟩ s = (s, ⟨.badLength, []⟩)) ∧
    serve ⟨0x0C, tag, [c]⟩ s = (s, ⟨.badLength, []⟩) ∧ serve ⟨0x0D, tag, [c]⟩ s = (s, ⟨.badLength, []⟩)) ∧
  (∀ (tag : Byte) (payload : List Byte) (s : State), payload.length ≤ 248 → (∀ ls, lanesPayload ls ≠ payload) →
    serve ⟨0x09, tag, payload⟩ s = (s, ⟨.badLength, []⟩)) ∧
  ∀ (tag n x y : Byte) (s : State), n.toNat = 0 ∨ 32 < n.toNat →
    (∀ type ∈ [0x20#8, 0x22#8, 0x23#8, 0x24#8, 0x25#8, 0x27#8, 0x28#8, 0x29#8, 0x2A#8, 0x2B#8, 0x2D#8, 0x2E#8],
      serve ⟨type, tag, [n]⟩ s = (s, ⟨.badValue, []⟩)) ∧
    serve ⟨0x21, tag, [n, x]⟩ s = (s, ⟨.badValue, []⟩) ∧
    serve ⟨0x2C, tag, [n, x]⟩ s = (s, ⟨.badValue, []⟩) ∧
    serve ⟨0x26, tag, [n, x, y]⟩ s = (s, ⟨.badValue, []⟩) ∧
    (s.clu.mode = .config → serve ⟨0x0A, tag, [n, x]⟩ s = (s, ⟨.badValue, []⟩)) ∧
    ∀ (head tail : List Byte), head.length = 3 → tail.length = 11 →
      serve ⟨0x18, tag, head ++ n :: tail⟩ s = (s, ⟨.badValue, []⟩)

/-- R197, R209: when the frame on the transmitter has been sent whole and no request waits, one ready notice follows a
reply, then a waiting reply goes, then a ready notice, and otherwise the transmitter is idle; a waiting request is taken
when no reply waits. That the choice comes at the event's end is log 9, and that FRAME_SENT with an idle transmitter changes
nothing is the model's reading (DEDUCED, log 2). -/
def Obligations.FrameSentChoosesTheNext : Prop :=
  ∀ s : State, let w := wake s
    let u := { w with clu := { w.clu with tx := Tx.idle } }
    let afterReply : Bool := match w.clu.tx with | .reply _ => true | _ => false
    (w.clu.tx = .idle → exec .frameSent s = .next (finish w)) ∧
    (w.clu.tx ≠ .idle → w.clu.rxQueue = [] →
      (hasKind w.clu.depotPending .entry = true → entryNoticeEntries w ≠ []) →
      ∃ t, exec .frameSent s = .next t ∧
        (∀ n, nextNotice u = some n → afterReply = true ∨ w.clu.replies = [] →
          t.clu = (sendNotice u).1.clu ∧ t.clu.replies = w.clu.replies ∧
          t.clu.tx = .notice ⟨0xC0, 0, noticePayload n u⟩) ∧
        (∀ r rs, w.clu.replies = r :: rs → afterReply = false ∨ nextNotice u = none →
          t.clu = { w.clu with replies := rs, tx := .reply r }) ∧
        (w.clu.replies = [] → nextNotice u = none → t.clu = u.clu)) ∧
    ∀ f fs, w.clu.rxQueue = f :: fs → w.clu.tx ≠ .idle → w.clu.replies = [] →
      let v := { w with clu := { w.clu with tx := Tx.idle, rxQueue := fs } }
      ∃ t, exec .frameSent s = .next t ∧ t.clu.rxQueue = fs ∧ t.clu.mode = (serve f v).1.clu.mode ∧
        Replied f.type f.tag (serve f v).2.result (serve f v).2.content t ∧ t.dpc = (serve f v).1.dpc ∧
        t.pal = (serve f v).1.pal ∧ t.frs = (serve f v).1.frs

/-- R209, 10.5: the notice chosen is ready, and none is ready of an earlier kind, or of the same kind for a lower bay. -/
def Obligations.NoticesGoInOrder : Prop :=
  ∀ s : State,
    (∀ n, nextNotice s = some n →
      (∀ j : NoticeKind, j.code < n.1.code → NoneReady j s) ∧
      (∀ b, n.2 = some b → n.1.depotWide = false ∧ bayReady n.1 b s = true ∧
        ∀ a : Bay, a < b → bayReady n.1 a s = false) ∧
      (n.2 = none → n.1.depotWide = true ∧ hasKind s.clu.depotPending n.1 = true)) ∧
    (nextNotice s = none → ∀ j : NoticeKind, NoneReady j s)

/-- R210: beginning a bay notice clears its pending flag, or for OVERDUE its send mark alone, and any other notice of a
bay whose OVERDUE is pending sets the mark again. BUDGET_EXCEEDED and GATE clear their own flag; a last sum above 65535 goes
out as a free value (log 29). An ENTRY notice empties the id set, and is not sent when no id of it is in the timetable; its
entries stand in the order their ids joined the set (DESIGN CHOICE, log 20). 10.7: each notice's bytes, from the state as it
stands when the notice begins. -/
def Obligations.SendingANoticeClearsIt : Prop :=
  (∀ s : State, nextNotice s = some (.entry, none) →
    let t := (sendNotice s).1
    let es := s.clu.entryIds.filterMap fun i => s.dpc.entries.find? fun e => e.id == i
    t.clu.entryIds = [] ∧ ChangesOnly [.clu] s t ∧ LinkKept s t ∧
    (∀ j : NoticeKind, hasKind t.clu.depotPending j = (hasKind s.clu.depotPending j && decide (j ≠ .entry))) ∧
    t.clu.pending = s.clu.pending ∧ t.clu.sendMark = s.clu.sendMark ∧ t.clu.replies = s.clu.replies ∧
    (sendNotice s).2 = decide (es ≠ []) ∧
    t.clu.tx = if es = [] then s.clu.tx else .notice ⟨0xC0, 0, [14] ++ timeOfDay s.clk.tod ++ u8 es.length ++
      es.flatMap fun e => u8 e.id ++ u8 e.state.code ++ u8 (bayNum e.bay)⟩) ∧
  (∀ (s : State) (k : NoticeKind), k = .budgetExceeded ∨ k = .gate → nextNotice s = some (k, none) →
    let t := (sendNotice s).1
    (sendNotice s).2 = true ∧ ChangesOnly [.clu] s t ∧ LinkKept s t ∧
    (∀ j : NoticeKind, hasKind t.clu.depotPending j = (hasKind s.clu.depotPending j && decide (j ≠ k))) ∧
    t.clu.pending = s.clu.pending ∧ t.clu.sendMark = s.clu.sendMark ∧ t.clu.entryIds = s.clu.entryIds ∧
    t.clu.replies = s.clu.replies ∧
    (k = .gate → t.clu.tx = .notice ⟨0xC0, 0, [6] ++ timeOfDay s.clk.tod ++ flag s.dpc.latchReleased ++
      flag s.dpc.readingReleased ++ flag (!s.dpc.readingReleased && s.dpc.latchReleased)⟩) ∧
    (k = .budgetExceeded → ∃ h l : Byte, (s.pal.meterSum < 65536 → [h, l] = u16 s.pal.meterSum) ∧
      t.clu.tx = .notice ⟨0xC0, 0, [5] ++ timeOfDay s.clk.tod ++ u16 s.pal.budget ++ [h, l] ++ u8 s.pal.excess⟩)) ∧
  ∀ s : State, ∀ n, nextNotice s = some n → ∀ b, n.2 = some b →
    let k := n.1
    let d := s.dpc.bays[b]
    let r := s.scs.reports[b]
    let orOf : Nat → Option (List Byte) → List Byte := fun width x => x.getD (List.replicate width 0xFF)
    (sendNotice s).2 = true ∧ ChangesOnly [.clu] s (sendNotice s).1 ∧ LinkKept s (sendNotice s).1 ∧
    (sendNotice s).1.clu.replies = s.clu.replies ∧ (sendNotice s).1.clu.depotPending = s.clu.depotPending ∧
    (sendNotice s).1.clu.tx = .notice ⟨0xC0, 0, u8 k.code ++ timeOfDay s.clk.tod ++ u8 (bayNum b) ++ u8 d.state.code ++
      orOf 1 (d.ret.map fun c => u8 c.code) ++ [d.holds] ++ orOf 1 (d.cur.map u8) ++
      orOf 1 ((curEntry b s).map fun e => u8 e.state.code) ++
      u8 ((if r.plugged then 1 else 0) + (if r.occupied then 2 else 0) + if r.pressed then 4 else 0) ++
      u8 s.pbc.health[b].state.code ++ u8 (heatState b s).code ++ u8 s.hpl.plans[b].level.code ++
      u8 (lampStatus b s).code ++ u8 d.overdueCount ++ u8 s.clr.idents[b].cls ++ orOf 6 s.clr.idents[b].fleet⟩ ∧
    (∀ (j : NoticeKind) (a : Bay), hasKind (sendNotice s).1.clu.pending[a] j =
      (hasKind s.clu.pending[a] j && !(decide (j = k ∧ a = b) && k != .overdue))) ∧
    ∀ a : Bay, (sendNotice s).1.clu.sendMark[a] =
      if a ≠ b then s.clu.sendMark[a]
      else if k = .overdue then false else (s.clu.sendMark[a] || hasKind s.clu.pending[a] .overdue)

/-! ### Queries -/

/-- R207, R144, R152: the queries answer the state as it stands, in the layouts and codes of section 10.7, and change
nothing; a bay without a lamp result is answered NOT_FOUND. A re-grant wait that has run its 60 s reads 1 until it is taken
(log 32), and no staging total reads all ones (log 33). In QUERY GRANTS the level at admission is coded as the levels of R82
(DESIGN CHOICE, log 54). -/
def Obligations.QueriesAnswerTheState : Prop :=
  ([Mode.config, .run, .safe].map (·.code) = [0, 1, 2] ∧ [Aspect.dark, .red, .amber, .green].map (·.code) = [0, 1, 2, 3] ∧
    [PedState.unseen, .online, .suspect, .offline].map (·.code) = [0, 1, 2, 3] ∧
    [SlotState.idle, .sending, .awaiting, .fetching].map (·.code) = [0, 1, 2, 3] ∧
    [IdentState.none, .waiting, .running, .done, .failed].map (·.code) = [0, 1, 2, 3, 4] ∧
    [Level.none, .wait, .normal, .urgent].map (·.code) = [0, 1, 2, 3] ∧
    [HeatState.off, .waiting, .queued, .heating, .paused, .keep, .faulted].map (·.code) = [0, 1, 2, 3, 4, 5, 6] ∧
    [LampStatus.none, .queued, .checking, .pass, .fail, .aborted, .linkFail].map (·.code) = [0, 1, 2, 3, 4, 5, 6] ∧
    [ClearState.empty, .standing, .ready, .releasing, .cleared, .held].map (·.code) = [0, 1, 2, 3, 4, 5] ∧
    [Phase.pausing, .baseline, .step, .ending].map (·.code) = [0, 1, 2, 3] ∧
    [ReadState.idle, .waiting, .reading].map (·.code) = [0, 1, 2] ∧ [Origin.coach, .lamp, .heater].map (·.code) = [0, 1, 2] ∧
    [Severity.blocking, .restrict, .advisory, .ignore].map (·.code) = [0, 1, 2, 3] ∧
    [StepOutcome.overrange, .opened, .degraded, .pass, .overload].map (·.code) = [0, 1, 2, 3, 4] ∧
    [CheckOutcome.pass, .fail, .aborted, .linkFail].map (·.code) = [0, 1, 2, 3] ∧
    [AbortCause.unplugged, .offline, .cancelled, .mode].map (·.code) = [0, 1, 2, 3] ∧
    [HeaterKind.noLoad, .overload, .stuck].map (·.code) = [0, 1, 2] ∧ TargetSource.entry.code = 0 ∧
    TargetSource.cls.code = 1 ∧ CabinSource.probe.code = 0 ∧ CabinSource.outdoor.code = 1) ∧
  ∀ (tag : Byte) (b : Bay) (s : State), tag ≠ 0 → let w := wake s
    let orOf : Nat → Option (List Byte) → List Byte := fun width x => x.getD (List.replicate width 0xFF)
    let signed : Option Int → List Byte := fun x => (x.map s16).getD [0x7F, 0xFF]
    let minutes : Nat → List Byte := fun ticks => u16 (min 65534 (ticks / 60))
    let r := w.scs.reports[b]
    let i := w.clr.idents[b]
    let p := w.hpl.plans[b]
    let a := w.pal.bays[b]
    let f := w.frs.bays[b]
    let d := w.dpc.bays[b]
    let causes : List Byte :=
      u8 ((if f.causes.read then 1 else 0) + (if f.causes.lamp then 2 else 0) + if f.causes.heater then 4 else 0)
    let faults : List Byte := u8 f.chain.length ++ u8 f.dropped ++
      flag (f.causes.read || f.causes.lamp || f.causes.heater) ++ flag f.stale ++ orOf 3 (f.lastRead.map timeOfDay)
    let reading : List Byte := flag f.complete ++ causes ++ u8 f.readState.code ++ u8 f.page
    exec (.queryBay tag [bayCode b]) s = .next (answered 0x20 tag .ok
      (flag r.plugged ++ flag r.occupied ++ flag r.closed ++ u8 r.aspect.code ++ flag r.pressed ++ flag r.supplyOn ++
        u16 r.current ++ flag r.high ++ flag (decide (r.current = 4095)) ++ signed r.cabin ++ orOf 3 (r.age.map u24) ++
        u8 w.pbc.health[b].state.code ++ u8 w.pbc.health[b].count ++ orOf 6 i.fleet ++ u8 i.cls ++
        u8 w.clr.slots[b].state.code ++ u16 p.need ++ s16 p.slack ++ u8 p.level.code ++ flag p.reached ++ flag p.long ++
        u16 p.energy ++ u8 (heatState b w).code ++ flag (w.pal.grants.any (·.bay == b)) ++
        orOf 3 (a.lastRelease.map timeOfDay) ++ flag a.faultBlock ++ u8 (lampStatus b w).code ++
        flag w.lce.results[b].isSome ++ flag w.lce.waivers[b] ++ faults ++ flag (!d.inService) ++
        orOf 2 ((laneOf b w).map fun l => u8 l.1 ++ u8 l.2) ++ u8 d.state.code ++ orOf 1 (d.ret.map fun c => u8 c.code) ++
        [d.holds] ++ orOf 1 (d.cur.map u8) ++ flag d.overdue.isSome ++ u8 d.overdueCount ++ flag d.heatWaiver ++
        u8 i.state.code ++ orOf 2 (p.target.map u16) ++ orOf 1 (p.targetSource.map fun x => u8 x.code) ++
        signed p.cabin ++ orOf 1 (p.cabinSource.map fun x => u8 x.code) ++ signed p.ttd ++ orOf 2 (p.derating.map u16) ++
        orOf 2 (p.rate.map u16) ++ orOf 2 (p.minute.map u16) ++ u16 a.pmeas ++ flag a.pause ++
        u8 ((a.regrant.map fun t => max 1 (60 - (w.clk.ticks - t))).getD 0) ++
        flag (hasKind w.clu.pending[b] .overdue) ++ reading ++ orOf 8 ((effRec b w).map (·.name))) w) ∧
    exec (.queryDepot tag []) s = .next (answered 0x30 tag .ok
      (u8 w.clu.mode.code ++ timeOfDay w.clk.tod ++ flag w.clk.isSet ++ u8 w.clu.linkRate.code ++
        u8 w.pbc.bitRate.code ++ flag (decide (w.pbc.line ≠ .normal)) ++ u8 w.scs.setList.length ++
        flag (decide (w.scs.setList = [])) ++ u8 w.scs.pos ++ flag w.scs.slow ++ u16 w.scs.lastDuration ++
        s16 (w.hpl.weather.value.getD (-100)) ++ flag w.hpl.weather.value.isSome ++ flag w.hpl.weather.stale ++
        orOf 2 (w.hpl.weather.age.map minutes) ++ u8 w.pal.schedule.length ++
        w.pal.schedule.flatMap (fun x => u16 x.minute ++ u16 x.budget) ++ u16 w.pal.budget ++ u16 (committedLoad w) ++
        u16 (liveLoad w) ++ u24 w.pal.meterSum ++ u8 w.pal.excess ++ u16 w.frs.free ++ u8 w.frs.staging.length ++
        orOf 1 (w.frs.stagingTotal.map u8) ++ u8 w.lce.queue.length ++ w.lce.queue.flatMap (fun a => u8 (bayNum a)) ++
        (List.finRange 4).flatMap (fun c : CtxId => orOf 3 (w.lce.ctxs[c].map fun x =>
          u8 (bayNum x.bay) ++ u8 x.phase.code ++ if x.phase = .step then u8 x.stepIndex else [0xFF])) ++
        flag w.dpc.latchReleased ++ flag w.dpc.readingReleased ++
        flag (!w.dpc.readingReleased && w.dpc.latchReleased) ++ u8 w.params.margin ++ u8 w.params.callLead ++
        u8 w.params.missLimit ++ u8 w.params.overdueWindow ++ u8 w.params.rotation ++ u8 w.params.stagger ++
        u8 w.params.keepBand ++ u8 w.params.tolerance ++ u16 w.params.voltage ++ u8 w.params.refresh ++
        u8 w.params.validity ++ flag w.params.autoCheck ++ u16 w.clu.mask.toNat) w) ∧
    exec (.readFaults tag [bayCode b]) s = .next (answered 0x2A tag .ok
      (faults ++ reading ++ u8 f.reported.length ++ orOf 2 (f.endOfRead.map fun t => minutes (w.clk.ticks - t)) ++
        f.chain.flatMap fun x => u16 x.code ++
          u8 (x.origin.code + 4 * x.severity.code + (if x.active then 0 else 16) + if x.waived then 32 else 0) ++
          u8 x.count ++ u16 x.first ++ u16 x.last ++ (match x.detail with
            | .coach => [0xFF, 0xFF, 0xFF] | .lamp g y => u8 g ++ u16 y | .heater y k => u16 y ++ u8 k.code)) w) ∧
    (∀ x ∈ w.lce.results[b], exec (.readLampResult tag [bayCode b]) s = .next (answered 0x29 tag .ok
      (timeOfDay x.completedTod ++ u16 (min 65535 ((w.clk.ticks - x.writtenTick) / 60)) ++ u8 x.outcome.code ++
        orOf 1 (x.cause.map fun c => u8 c.code) ++ u8 x.cls ++ orOf 2 (x.baseline.map fun y => match y with
          | .value n => u16 n | .saturated => [0xFF, 0xFE]) ++ u8 x.steps.length ++
        x.steps.flatMap fun y => u8 y.group ++ flag y.critical ++ u8 y.outcome.code ++ u16 y.delta) w)) ∧
    (w.lce.results[b] = none →
      exec (.readLampResult tag [bayCode b]) s = .next (answered 0x29 tag .notFound [] w)) ∧
    ∀ (f : Byte) (k : Nat) (g : Grant), k < 16 → w.pal.grants[f.toNat + k]? = some g →
      ∃ content, exec (.queryGrants tag [f]) s = .next (answered 0x31 tag .ok content w) ∧
        (content.drop (15 + 11 * k)).take 1 = u8 g.levelAtAdmission.code

/-- R205: the runs of the timetable and of the grant list that LIST DEPARTURES and QUERY GRANTS return. One byte tells the level
at admission, NORMAL or URGENT, of each grant; which byte stands for which, R205 does not say, and `QueriesAnswerTheState` states
the model's choice (log 54). -/
def Obligations.TableRunsAreReported : Prop :=
  ∃ level : Level → Byte, level .normal ≠ level .urgent ∧ ∀ (tag f : Byte) (s : State), tag ≠ 0 → let w := wake s
    exec (.listDepartures tag [f]) s = .next (answered 0x1A tag .ok
      (u8 w.dpc.entries.length ++ [f] ++ u8 (min 12 (w.dpc.entries.length - f.toNat)) ++
        ((w.dpc.entries.drop f.toNat).take 12).flatMap fun e =>
          u8 e.id ++ u16 e.minute ++ u8 (bayNum e.bay) ++ e.label ++
          (match e.target with | some t => u16 t | none => [0xFF, 0xFF]) ++
          u8 ((if e.priority then 1 else 0) + (if e.restrictOk then 2 else 0)) ++ u8 e.state.code ++
          (if e.due then u16 (minutesSince e w).toNat else [0xFF, 0xFF])) w) ∧
    exec (.queryGrants tag [f]) s = .next (answered 0x31 tag .ok
      (u16 w.pal.budget ++ u16 (w.pal.grants.map (·.power)).sum ++
        u16 ((w.pal.grants.filter fun g =>
          g.state == .pendingClose || g.state == .confirming || g.state == .active).map (·.power)).sum ++
        u8 (bayNum w.pal.urgentPtr) ++ u8 (bayNum w.pal.normalPtr) ++
        (match w.pal.outstanding with | some b => u8 (bayNum b) | none => [0xFF]) ++
        u8 w.pal.grants.length ++ [f] ++ u8 (min 16 (w.pal.grants.length - f.toNat)) ++
        ((w.pal.grants.drop f.toNat).take 16).flatMap fun g =>
          u8 (bayNum g.bay) ++ u16 g.power ++ [level g.levelAtAdmission] ++ timeOfDay g.admissionTod ++
          u8 g.state.code ++ timeOfDay g.changeTod) w)

/-! ### Modes and the clock -/

/-- R202: what each mode allows; the five requests that reshape the depot judge their size first (R198). -/
def Obligations.ModesAllowRequests : Prop :=
  (∀ (f : Frame) (s : State),
    (f.type.toNat ∈ [0x09, 0x0A, 0x0B, 0x0C, 0x0E] →
      (s.clu.mode = .config → (serve f s).2.result ≠ .wrongMode) ∧
      (s.clu.mode ≠ .config → (serve f s).1 = s ∧
        ((serve f s).2 = ⟨.wrongMode, []⟩ ∨ (serve f s).2 = ⟨.badLength, []⟩))) ∧
    (¬ f.type.toNat ∈ [0x01, 0x02, 0x03, 0x09, 0x0A, 0x0B, 0x0C, 0x0E, 0x33] → (serve f s).2.result ≠ .wrongMode)) ∧
  ∀ (tag : Byte) (s : State),
    ((serve ⟨0x01, tag, []⟩ s).2.result = .wrongMode ↔
      s.clu.mode = .run ∨ s.clk.isSet = false ∨ ∀ l ∈ s.dpc.lanes.toList, l = []) ∧
    ((serve ⟨0x02, tag, []⟩ s).2.result = .wrongMode ↔ s.clu.mode ≠ .run) ∧
    ((serve ⟨0x03, tag, []⟩ s).2.result = .wrongMode ↔ s.clu.mode ≠ .safe) ∧
    ((serve ⟨0x33, tag, []⟩ s).2.result = .wrongMode ↔ s.clu.mode ≠ .run)

/-- R200, R202: START with the clock SET and a lane enters RUN, lifts every MODE hold, switches the supply ON for plugged
bays and leaves the gate latch as it is; CONFIGURE in SAFE changes the mode alone. -/
def Obligations.StartAndConfigureChangeTheMode : Prop :=
  ∀ (tag : Byte) (s : State), tag ≠ 0 → let w := wake s
    (w.clu.mode ≠ .run → w.clk.isSet = true → (∃ l ∈ w.dpc.lanes.toList, l ≠ []) →
      ∃ u, exec (.start tag []) s = .next (answered 0x01 tag .ok [] u) ∧ u.clu.mode = .run ∧
        (∀ b : Bay, hasHold u.dpc.bays[b].holds .mode = false) ∧
        (∀ b : Bay, w.scs.reports[b].plugged = true → u.pbc.images[b].supplyOn = true) ∧
        u.dpc.latchReleased = w.dpc.latchReleased ∧ u.dpc.readingReleased = w.dpc.readingReleased ∧
        u.dpc.lanes = w.dpc.lanes ∧ LinkKept w u ∧ ChangesOnly [.clu, .pbc, .hpl, .pal, .dpc] w u) ∧
    (w.clu.mode = .run ∨ w.clk.isSet = false ∨ (∀ l ∈ w.dpc.lanes.toList, l = []) →
      exec (.start tag []) s = .next (answered 0x01 tag .wrongMode [] w)) ∧
    (w.clu.mode = .safe → exec (.configure tag []) s =
      .next (answered 0x03 tag .ok [] { w with clu := { w.clu with mode := .config } })) ∧
    (w.clu.mode ≠ .safe → exec (.configure tag []) s = .next (answered 0x03 tag .wrongMode [] w))

/-- R201, R123, R141, R192: STOP holds the depot safe. With a grant list of one grant for a bay (R104), no grant stays
live. -/
def Obligations.StopMakesTheDepotSafe : Prop :=
  ∀ (tag : Byte) (s : State), tag ≠ 0 → let w := wake s
    (w.clu.mode = .run → ∃ u, exec (.stop tag []) s = .next (answered 0x02 tag .ok [] u) ∧ u.clu.mode = .safe ∧
      u.pbc.broadcast = true ∧ u.dpc.latchReleased = false ∧ (OneGrantLaw w → liveLoad u = 0) ∧
      (∀ b : Bay, (w.dpc.bays[b].state = .empty ∨ w.dpc.bays[b].state = .standing →
          u.dpc.bays[b].state = w.dpc.bays[b].state) ∧
        (w.dpc.bays[b].state ≠ .empty → w.dpc.bays[b].state ≠ .standing →
          u.dpc.bays[b].state = .held ∧ hasHold u.dpc.bays[b].holds .mode = true ∧
          u.dpc.bays[b].ret = if w.dpc.bays[b].state = .held then w.dpc.bays[b].ret else some w.dpc.bays[b].state)) ∧
      (∀ b : Bay, w.scs.reports[b].plugged = true → u.pbc.images[b].supplyOn = false) ∧
      (∀ c : CtxId, ∀ x ∈ u.lce.ctxs[c], x.phase = .ending) ∧ (∀ b ∈ u.lce.queue, b ∈ w.lce.queue) ∧
      u.dpc.entries.map (·.id) = w.dpc.entries.map (·.id) ∧ LinkKept w u ∧
      u.clk = w.clk ∧ u.params = w.params ∧ u.scs = w.scs ∧ u.hpl.weather = w.hpl.weather) ∧
    (w.clu.mode ≠ .run → exec (.stop tag []) s = .next (answered 0x02 tag .wrongMode [] w))

/-- R16 to R19, R83, R103: SET CLOCK, its steps and settings, the plans and the budget of a new minute, and the entries that it
makes DUE. That the minute tick of a changed minute is given in the request's own event is the model's choice (DESIGN CHOICE,
log 6). -/
def Obligations.SetClockMovesTheTimeOfDay : Prop :=
  ∀ (tag h m sec : Byte) (s : State), tag ≠ 0 → let w := wake s
    let new := h.toNat * 3600 + m.toNat * 60 + sec.toNat
    let d : Int := ((new : Int) - w.clk.tod + 43200) % 86400 - 43200
    let k : Int := ((new / 60 : Nat) - (w.minute : Int)) % 1440
    let passed : Entry → Bool := fun e => decide (w.clu.mode ≠ .config ∧ 0 < d ∧
      1 ≤ ((e.minute : Int) - w.minute) % 1440 ∧ ((e.minute : Int) - w.minute) % 1440 ≤ k - 1)
    (h.toNat > 23 ∨ m.toNat > 59 ∨ sec.toNat > 59 →
      exec (.setClock tag [h, m, sec]) s = .next (answered 0x08 tag .badValue [] w)) ∧
    (¬(h.toNat > 23 ∨ m.toNat > 59 ∨ sec.toNat > 59) → w.clu.mode ≠ .config → d < -300 ∨ 300 < d →
      exec (.setClock tag [h, m, sec]) s = .next (answered 0x08 tag .badValue [] w)) ∧
    (¬(h.toNat > 23 ∨ m.toNat > 59 ∨ sec.toNat > 59) → w.clu.mode = .config ∨ (-300 ≤ d ∧ d ≤ 300) →
      ∃ u, exec (.setClock tag [h, m, sec]) s = .next (answered 0x08 tag .ok [] u) ∧
        u.clk = { w.clk with tod := new, isSet := true } ∧ u.clu.mode = w.clu.mode ∧ LinkKept w u ∧
        ChangesOnly [.clk, .clu, .pbc, .clr, .hpl, .pal, .frs, .dpc] w u ∧
        (k = 0 → u = { w with clk := { w.clk with tod := new, isSet := true } }) ∧
        (k ≠ 0 → (∀ b : Bay, u.hpl.plans[b].minute = some (new / 60)) ∧
          u.pal.budget = budgetAt w.pal.schedule (new / 60) ∧
          (TimetableLaw w → ∀ e ∈ w.dpc.entries, ∀ e' ∈ u.dpc.entries, e'.id = e.id →
            e'.due = (e.due || e.state.live && (passed e || decide (e.minute = new / 60))))))

/-- R13 to R15, R58, R88, R134: a second tick advances the time of day and every age that counts second ticks, and raises a
minute tick when a new minute begins; only the lamp queue's take-up reaches further. -/
def Obligations.SecondTickAdvancesTheClock : Prop :=
  ∀ s : State, let w := wake s
    let tod := if w.clk.tod + 1 = 86400 then 0 else w.clk.tod + 1
    w.clk.tod < 86400 →
    ∃ u, exec .secondTick s = .next (finish u) ∧ u.clk.tod = tod ∧ u.clk.isSet = w.clk.isSet ∧
      u.clk.ticks = w.clk.ticks + 1 ∧
      u.clk.minuteTicks = (if tod % 60 = 0 then w.clk.minuteTicks ++ [tod / 60] else w.clk.minuteTicks) ∧
      (∀ b : Bay, u.scs.reports[b] = { w.scs.reports[b] with
        age := w.scs.reports[b].age.map fun a => min 65535 (a + 1) }) ∧
      u.hpl = { w.hpl with weather := { w.hpl.weather with age := w.hpl.weather.age.map (· + 1) } } ∧
      (BudgetLaw w → ∀ b : Bay, b ∈ w.lce.queue → b ∈ u.lce.queue ∨ bayPlan b w = [] ∨
        (eligible b w = true ∧ ∃ c : CtxId, ∃ x ∈ u.lce.ctxs[c], x.bay = b ∧ x.phase = .pausing ∧
          u.pal.bays[b].pause = true)) ∧
      u.lce.results = w.lce.results ∧ u.lce.waivers = w.lce.waivers ∧ u.lce.plans = w.lce.plans ∧
      ChangesOnly [.clk, .pbc, .scs, .hpl, .pal, .lce] w u

/-- R14, R83, R103, R160, R174: a minute tick makes entries DUE and MISSED, removes old ones, works out the budget, plans
every bay and keeps every chain. R174, R178, R184: no bay keeps a removed id as that of the CALLED entry it entered RELEASING
or was held with. R110: the rotation of its pass releases the oldest NORMAL grants that are due, as many as
NORMAL candidates wait. -/
def Obligations.MinuteTickRunsTheDepot : Prop :=
  (∀ s : State, OneGrantLaw s →
    let due := s.pal.grants.filter fun g =>
      decide (g.state = .active ∧ level g.bay s = .normal ∧ s.clk.ticks - g.admissionTick ≥ 60 * s.params.rotation)
    let waiting := (List.finRange 32).filter fun b : Bay => candidate b s && decide (level b s = .normal)
    let out := due.take waiting.length
    (s.params.rotation = 0 → rotation s = s) ∧
    (s.params.rotation ≠ 0 →
      (rotation s).pal = { s.pal with grants := s.pal.grants.map fun g => if g ∈ out then opened s.clk.tod g else g } ∧
      (∀ b : Bay, (rotation s).pbc.images[b] = { s.pbc.images[b] with
        closed := s.pbc.images[b].closed && !out.any (·.bay == b) }) ∧ ChangesOnly [.pbc, .pal] s (rotation s))) ∧
  ∀ s : State, let w := wake s
    (w.clk.minuteTicks = [] → exec .minuteTick s = .next (finish w)) ∧
    ∀ m ms, w.clk.minuteTicks = m :: ms →
      ∃ u, exec .minuteTick s = .next (finish u) ∧ u.clk = { w.clk with minuteTicks := ms } ∧
        (∀ b : Bay, u.hpl.plans[b].minute = some w.minute) ∧ u.pal.budget = budgetAt w.pal.schedule w.minute ∧
        (∀ b : Bay, u.frs.bays[b].chain = w.frs.bays[b].chain) ∧
        (TimetableLaw w → ∀ e ∈ u.dpc.entries, e.state.live = true → e.minute = m → e.due = true) ∧
        (∀ e ∈ u.dpc.entries, ∃ e' ∈ w.dpc.entries, e'.id = e.id ∧ e'.minute = e.minute ∧ e'.bay = e.bay) ∧
        (TimetableLaw w → ∀ e ∈ w.dpc.entries,
          (e.state = .scheduled ∨ e.state = .called → e.due = true ∨ e.minute = m →
            minutesSince e w ≥ w.params.missLimit → ∃ e' ∈ u.dpc.entries, e'.id = e.id ∧ e'.state = .missed ∧
              e'.terminalSince = some w.clk.ticks) ∧
          (e.state.live = false → ∀ t ∈ e.terminalSince, w.clk.ticks - t ≥ 600 →
            (∀ e' ∈ u.dpc.entries, e'.id ≠ e.id) ∧
            (CurrentLaw w → ∀ b : Bay, u.dpc.bays[b].relEntry ≠ some e.id))) ∧
        u.clu.mode = w.clu.mode ∧ LinkKept w u ∧
        ChangesOnly [.clk, .clu, .pbc, .clr, .hpl, .pal, .frs, .dpc] w u

/-! ### Setting the depot up -/

/-- R5, R6: SET LANES. -/
def Obligations.SetLanesReplacesTheTable : Prop :=
  ∀ (tag : Byte) (ls : List (Byte × List Byte)) (s : State), tag ≠ 0 → (lanesPayload ls).length ≤ 248 → let w := wake s
    let valid : Prop := (∀ l ∈ ls, 1 ≤ l.1.toNat ∧ l.1.toNat ≤ 8 ∧ 1 ≤ l.2.length ∧ l.2.length ≤ 8 ∧
      ∀ b ∈ l.2, 1 ≤ b.toNat ∧ b.toNat ≤ 32) ∧ (ls.map (·.1)).Nodup ∧ (ls.flatMap (·.2)).Nodup
    let stranded : Prop := ∃ b : Bay, w.dpc.bays[b].state = .held ∧ ¬ bayCode b ∈ ls.flatMap (·.2)
    (w.clu.mode ≠ .config →
      exec (.setLanes tag (lanesPayload ls)) s = .next (answered 0x09 tag .wrongMode [] w)) ∧
    (w.clu.mode = .config → ¬valid →
      exec (.setLanes tag (lanesPayload ls)) s = .next (answered 0x09 tag .badValue [] w)) ∧
    (w.clu.mode = .config → valid → stranded →
      exec (.setLanes tag (lanesPayload ls)) s = .next (answered 0x09 tag .wrongState [] w)) ∧
    (w.clu.mode = .config → valid → ¬stranded →
      ∃ u, exec (.setLanes tag (lanesPayload ls)) s = .next (answered 0x09 tag .ok [] u) ∧ LaneLaw u ∧
        (∀ i : Fin 8, ∀ l ∈ ls, l.1.toNat = i.val + 1 → u.dpc.lanes[i].map bayCode = l.2) ∧
        (∀ i : Fin 8, (∀ l ∈ ls, l.1.toNat ≠ i.val + 1) → u.dpc.lanes[i] = []) ∧
        (∀ b : Bay, bayCode b ∈ ls.flatMap (·.2) → u.dpc.bays[b].state = .held → u.dpc.bays[b].ret = some .cleared →
          hasHold u.dpc.bays[b].holds .path = !pathClear b u) ∧
        (∀ b : Bay, ¬ bayCode b ∈ ls.flatMap (·.2) → u.dpc.bays[b] = w.dpc.bays[b]) ∧
        (∀ b : Bay, u.dpc.bays[b].inService = w.dpc.bays[b].inService) ∧
        u.dpc.latchReleased = w.dpc.latchReleased ∧ u.dpc.readingReleased = w.dpc.readingReleased ∧
        u.clu.mode = .config ∧ LinkKept w u ∧ ChangesOnly [.clu, .pbc, .hpl, .pal, .dpc] w u)

/-- R3, R6, R54: SET BAY SERVICE: the bay, the bays behind it, which are EMPTY, STANDING or HELD by MODE in CONFIG (R192), and
the scan that has been waiting for a bay in service. -/
def Obligations.SetBayServiceChangesOneBay : Prop :=
  ∀ (tag v : Byte) (b : Bay) (s : State), tag ≠ 0 → let w := wake s
    let cmd := Instr.setBayService tag [bayCode b, v]
    (w.clu.mode ≠ .config → exec cmd s = .next (answered 0x0A tag .wrongMode [] w)) ∧
    (w.clu.mode = .config → v ≠ 0 → v ≠ 1 → exec cmd s = .next (answered 0x0A tag .badValue [] w)) ∧
    (w.clu.mode = .config → v = 1 → w.dpc.bays[b].state = .held →
      exec cmd s = .next (answered 0x0A tag .wrongState [] w)) ∧
    (w.clu.mode = .config → v = 0 ∨ (v = 1 ∧ w.dpc.bays[b].state ≠ .held) →
      w.dpc.bays[b].inService = decide (v = 0) → exec cmd s = .next (answered 0x0A tag .ok [] w)) ∧
    (w.clu.mode = .config → v = 0 ∨ (v = 1 ∧ w.dpc.bays[b].state ≠ .held) →
      w.dpc.bays[b].inService ≠ decide (v = 0) →
      ∃ u, exec cmd s = .next (answered 0x0A tag .ok [] u) ∧
        (∀ a : Bay, u.dpc.bays[a].inService = if a = b then decide (v = 0) else w.dpc.bays[a].inService) ∧
        (¬ b ∈ behind b w → u.dpc.bays[b] = { w.dpc.bays[b] with inService := decide (v = 0) }) ∧
        (∀ a : Bay, ¬ a ∈ behind b w → a ≠ b → u.dpc.bays[a] = w.dpc.bays[a]) ∧
        (ModeLaw w → HoldLaw w → ∀ a ∈ behind b w, a ≠ b →
          (w.dpc.bays[a].state ≠ .held → u.dpc.bays[a] = w.dpc.bays[a]) ∧
          (w.dpc.bays[a].state = .held → u.dpc.bays[a].state = .held ∧ u.dpc.bays[a].ret = w.dpc.bays[a].ret ∧
            (w.dpc.bays[a].ret = some .cleared → hasHold u.dpc.bays[a].holds .path = !pathClear a u) ∧
            (w.dpc.bays[a].ret ≠ some .cleared → hasHold u.dpc.bays[a].holds .path =
              (hasHold w.dpc.bays[a].holds .path && !pathClear a u)) ∧
            ∀ r : HoldReason, r ≠ .path → r ≠ .fault → hasHold u.dpc.bays[a].holds r = hasHold w.dpc.bays[a].holds r)) ∧
        (w.scs.round ≠ .stopped → u.scs = w.scs) ∧
        (w.scs.round = .stopped → w.clk.now < w.scs.roundStart + 250 →
          u.scs = { w.scs with pos := 0, round := .pacing } ∧ u.pbc.scanReq = w.pbc.scanReq) ∧
        (w.scs.round = .stopped → w.scs.roundStart + 250 ≤ w.clk.now → ∀ e es, effectiveList u = e :: es →
          u.scs = { w.scs with
            roundList := e :: es, pos := 0, round := .running, roundStart := w.clk.now, roundTick := w.clk.ticks } ∧
          u.pbc.scanReq = some ⟨e.bay, e.high, w.clk.now⟩) ∧
        u.scs.reports = w.scs.reports ∧ u.dpc.lanes = w.dpc.lanes ∧
        u.clu.mode = .config ∧ LinkKept w u ∧ ChangesOnly [.clu, .pbc, .scs, .hpl, .pal, .dpc] w u)

/-- R8 to R10, R129, R130: SET CLASS and SET LAMP PLAN. -/
def Obligations.ClassesAndPlansAreSet : Prop :=
  (∀ (tag c l n : Byte) (name : Vector Byte 8) (power rate target settle : Nat) (s : State), tag ≠ 0 →
    power < 65536 → rate < 65536 → target < 65536 → settle < 65536 → let w := wake s
    let cmd := Instr.setClass tag
      (c :: name.toList ++ u16 power ++ u16 rate ++ [l] ++ u16 target ++ u16 settle ++ [n])
    let valid : Prop := 1 ≤ c.toNat ∧ c.toNat ≤ 8 ∧ (∀ x ∈ name.toList, 0x20 ≤ x.toNat ∧ x.toNat ≤ 0x7E) ∧
      10 ≤ power ∧ power ≤ 600 ∧ 1 ≤ rate ∧ rate ≤ 2000 ∧ l.toNat ≤ 25 ∧ 50 ≤ target ∧ target ≤ 260 ∧ 50 ≤ settle ∧
      settle ≤ 2000 ∧ 2 ≤ n.toNat ∧ n.toNat ≤ 16
    (w.clu.mode ≠ .config → exec cmd s = .next (answered 0x0B tag .wrongMode [] w)) ∧
    (w.clu.mode = .config → ¬valid → exec cmd s = .next (answered 0x0B tag .badValue [] w)) ∧
    (w.clu.mode = .config → valid → ∃ u, exec cmd s = .next (answered 0x0B tag .ok [] u) ∧
      (∀ i : Fin 8, u.clu.classes[i] =
        if i.val + 1 = c.toNat then some ⟨name.toList, power, rate, l.toNat, target, settle, n.toNat⟩
        else w.clu.classes[i]) ∧
      (∀ b : Bay, u.hpl.plans[b] = if w.clr.idents[b].cls = c.toNat then
        computePlan b { w with clu := { w.clu with classes := u.clu.classes } } else w.hpl.plans[b]) ∧
      (∀ g ∈ u.pal.grants, ∃ g' ∈ w.pal.grants, g'.bay = g.bay ∧ g'.power = g.power) ∧
      u.clu = { w.clu with classes := u.clu.classes } ∧ u.hpl.weather = w.hpl.weather ∧
      ChangesOnly [.clu, .pbc, .hpl, .pal] w u)) ∧
  ∀ (tag c : Byte) (steps : List LampStep) (s : State), tag ≠ 0 → steps.length ≤ 49 →
    (∀ x ∈ steps, x.group < 128 ∧ x.min < 65536 ∧ x.max < 65536) → let w := wake s
    let cmd := Instr.setLampPlan tag (c :: u8 steps.length ++ steps.flatMap fun x =>
      u8 (x.group + if x.critical then 128 else 0) ++ u16 x.min ++ u16 x.max)
    let valid : Prop := steps.length ≤ 24 ∧ (steps.map (·.group)).Nodup ∧
      ∀ x ∈ steps, 1 ≤ x.group ∧ x.group ≤ 63 ∧ 1 ≤ x.min ∧ x.min ≤ 4000 ∧ x.min ≤ x.max ∧ x.max ≤ 4094
    (w.clu.mode ≠ .config → exec cmd s = .next (answered 0x0C tag .wrongMode [] w)) ∧
    (w.clu.mode = .config → ¬valid ∨ (∀ i : Fin 8, i.val + 1 ≠ c.toNat) →
      exec cmd s = .next (answered 0x0C tag .badValue [] w)) ∧
    (w.clu.mode = .config → valid → ∀ i : Fin 8, i.val + 1 = c.toNat → exec cmd s =
      .next (answered 0x0C tag .ok [] { w with lce := { w.lce with plans := w.lce.plans.set i steps } }))

/-- R153, R204: SET SEVERITY, frame by frame. -/
def Obligations.SetSeverityStagesTheTable : Prop :=
  ∀ (tag total first : Byte) (es : List SevEntry) (s : State), tag ≠ 0 → es.length ≤ 48 →
    (∀ e ∈ es, e.low < 65536 ∧ e.high < 65536) → let w := wake s
    let cmd := Instr.setSeverity tag (total :: first :: es.flatMap fun e =>
      u16 e.low ++ u16 e.high ++ u8 e.severity.code)
    let valid : Prop := total.toNat ≤ 64 ∧ first.toNat + es.length ≤ total.toNat ∧ ∀ e ∈ es, 1 ≤ e.low ∧ e.low ≤ e.high
    let follows : Prop := first = 0 ∨ (w.frs.stagingTotal = some total.toNat ∧ w.frs.staging.length = first.toNat)
    let staged := (if first = 0 then [] else w.frs.staging) ++ es
    (¬valid → exec cmd s = .next (answered 0x0D tag .badValue [] w)) ∧
    (valid → ¬follows → exec cmd s = .next (answered 0x0D tag .wrongState [] w)) ∧
    (valid → follows → staged.length = total.toNat → exec cmd s = .next (answered 0x0D tag .ok [0]
      { w with frs := { w.frs with table := staged, staging := [], stagingTotal := none } })) ∧
    (valid → follows → staged.length ≠ total.toNat → exec cmd s = .next (answered 0x0D tag .ok (u8 staged.length)
      { w with frs := { w.frs with staging := staged, stagingTotal := some total.toNat } }))

/-- R151, R154, R157, R161 to R163: the lookup of a code, what one entry of a fault page (not the whole page of R157) and a HEATER record do to a bay's chain, and
the LAMP replacement, with the cause that a dropped record adds. The records of the lamps and of the heater do not ask the
table. R151: a LAMP record's delta is 0 to 4094; for a step's delta of 4095, which R138 can give, it is the free value of log 48
(DESIGN CHOICE), and the statement holds for every value of it. -/
def Obligations.PageEntriesAreLookedUpAndMerged : Prop :=
  (∀ (table : List SevEntry) (code : Nat),
    ((∀ e ∈ table, ¬(e.low ≤ code ∧ code ≤ e.high)) → lookupSeverity table code = .advisory) ∧
    ∀ (before after : List SevEntry) (e : SevEntry), (∀ x ∈ before, ¬(x.low ≤ code ∧ code ≤ x.high)) →
      e.low ≤ code → code ≤ e.high → lookupSeverity (before ++ e :: after) code = e.severity) ∧
  (∀ (b : Bay) (entries : List StepEntry) (s : State),
    let f := s.frs.bays[b]
    let t := lampReplacement b entries s
    let kept := f.chain.filter fun r => decide (r.origin ≠ .lamp)
    let free := s.frs.free + (f.chain.length - kept.length)
    let records : List FaultRec := (entries.filter fun e => decide (e.outcome ≠ .pass)).map fun e =>
      ⟨0xF100 + e.group, .lamp, if e.critical = true then .blocking else .advisory, true, 1, s.minute, s.minute, false,
        .lamp e.group (if e.delta ≤ 4094 then e.delta else (Config.wideDelta e.delta).val)⟩
    (kept.length + records.length ≤ 16 → records.length ≤ free → t.frs.free = free - records.length ∧
      t.frs.bays[b] = { f with chain := kept ++ records, causes := { f.causes with lamp := false } }) ∧
    (∀ r, records = [r] → 16 ≤ kept.length ∨ free = 0 → ∃ f', Inserted r free { f with chain := kept } t.frs.free f' ∧
      t.frs.bays[b].chain = f'.chain ∧ t.frs.bays[b].dropped = f'.dropped ∧
      (f'.chain ≠ kept → t.frs.bays[b].causes = { f.causes with lamp := false }) ∧
      (f'.chain = kept → t.frs.bays[b].causes = { f.causes with lamp := true })) ∧
    (∀ r ∈ t.frs.bays[b].chain, r.origin = .lamp → ∀ g d : Nat, r.detail = .lamp g d → d ≤ 4094) ∧
    ∀ a : Bay, a ≠ b → t.frs.bays[a] = s.frs.bays[a]) ∧
  (∀ (b : Bay) (k : HeaterKind) (s : State),
    let f := s.frs.bays[b]
    let t := heaterRecord b k s
    let code : Nat := match k with | .noLoad => 0xF201 | .overload => 0xF202 | .stuck => 0xF203
    let detail := Detail.heater s.pal.bays[b].pmeas k
    ((∃ r ∈ f.chain, r.code = code ∧ r.origin = .heater) → t.frs.free = s.frs.free ∧
      t.frs.bays[b] = { f with chain := f.chain.map fun r =>
        if r.code = code ∧ r.origin = .heater then { r with
          count := min 255 (r.count + 1), active := true, last := s.minute, detail := detail
          waived := r.waived && !decide (r.count < 255) }
        else r }) ∧
    ((∀ r ∈ f.chain, ¬(r.code = code ∧ r.origin = .heater)) →
      Inserted ⟨code, .heater, .blocking, true, 1, s.minute, s.minute, false, detail⟩ s.frs.free f t.frs.free
        t.frs.bays[b]) ∧
    ∀ a : Bay, a ≠ b → t.frs.bays[a] = s.frs.bays[a]) ∧
  ∀ (b : Bay) (e : PageEntry) (s : State),
    let v := lookupSeverity s.frs.table e.code
    let f := s.frs.bays[b]
    let f' := (mergeEntry b e s).frs.bays[b]
    let same : FaultRec → Prop := fun r => r.code = e.code ∧ r.origin = .coach
    (v = .ignore → mergeEntry b e s = s) ∧
    (v ≠ .ignore → f'.reported = (if e.code ∈ f.reported then f.reported else f.reported ++ [e.code]) ∧
      ((∃ r ∈ f.chain, same r) → f'.chain = f.chain.map fun r =>
        if r.code = e.code ∧ r.origin = .coach then { r with
          active := e.active, last := s.minute, count := max r.count e.count, severity := v
          waived := r.waived && !decide (r.count < e.count ∨ v.code < r.severity.code) }
        else r) ∧
      ((∀ r ∈ f.chain, ¬same r) → Inserted ⟨e.code, .coach, v, e.active, e.count, s.minute, s.minute, false, .coach⟩
        s.frs.free { f with reported := f'.reported } (mergeEntry b e s).frs.free f') ∧
      (∀ r ∈ f'.chain, r.origin ≠ .coach → r ∈ f.chain) ∧
      ∀ a : Bay, a ≠ b → (mergeEntry b e s).frs.bays[a] = s.frs.bays[a])

/-- R39, R40, R48 to R54: SET SCAN LIST, the limits of the scan, and the arbiter's order. R53 and R55 say that a round in
progress has lasted 2 s, and the model takes that at the second of the second ticks since its start (DESIGN CHOICE, log 22);
a limit that is not running changes nothing (logs 4, 5). -/
def Obligations.ScanRoundsAreRun : Prop :=
  (∀ (tag : Byte) (es : List (Byte × Byte)) (s : State), tag ≠ 0 → es.length ≤ 123 → let w := wake s
    let cmd := Instr.setScanList tag (u8 es.length ++ es.flatMap fun e => [e.1, e.2])
    let valid : Prop := es.length ≤ 48 ∧ ∀ e ∈ es, 1 ≤ e.1.toNat ∧ e.1.toNat ≤ 32 ∧ (e.2 = 0 ∨ e.2 = 1)
    (w.clu.mode ≠ .config → exec cmd s = .next (answered 0x0E tag .wrongMode [] w)) ∧
    (w.clu.mode = .config → ¬valid → exec cmd s = .next (answered 0x0E tag .badValue [] w)) ∧
    (w.clu.mode = .config → valid → ∃ u, exec cmd s = .next (answered 0x0E tag .ok [] u) ∧
      u.scs.setList.map (fun e => (bayCode e.bay, if e.high then 1#8 else 0#8)) = es ∧ u.scs.pos = 0 ∧
      (w.scs.round = .running ∨ w.scs.round = .abandoned → u.scs.round = .abandoned ∧ u.pbc = w.pbc) ∧
      (w.scs.round ≠ .stopped → u.scs.slow = w.scs.slow ∧ u.pbc = w.pbc) ∧
      u.scs.lastDuration = w.scs.lastDuration ∧ u.scs.reports = w.scs.reports ∧ u.pal = w.pal ∧
      u.pbc.current = w.pbc.current ∧ ChangesOnly [.pbc, .scs] w u)) ∧
  (∀ s : State, let w := wake s
    let started := { w with clk := { w.clk with now := max w.clk.now (w.scs.roundStart + 250) } }
    (w.scs.round ≠ .pacing → exec .roundStart s = .next (finish w)) ∧
    (w.scs.round = .pacing → effectiveList w = [] → exec .roundStart s = .next (finish
      { started with scs := { w.scs with roundList := [], pos := 0, round := .stopped, slow := false } })) ∧
    ∀ e es, effectiveList w = e :: es → w.scs.round = .pacing → exec .roundStart s = .next (finish
      { started with
        scs := { w.scs with
          roundList := e :: es, pos := 0, round := .running, roundStart := started.clk.now, roundTick := w.clk.ticks }
        pbc := { w.pbc with scanReq := some ⟨e.bay, e.high, started.clk.now⟩ } })) ∧
  (∀ s : State, let w := wake s
    let late : Prop := w.scs.round = .running ∧ 2 ≤ w.clk.ticks - w.scs.roundTick
    (late → exec .roundSlowLimit s = .next (finish { w with scs := { w.scs with slow := true } })) ∧
    (¬late → exec .roundSlowLimit s = .next (finish w))) ∧
  (∀ s : State, let w := wake s
    (w.pbc.scanReq = none → exec .scanRequestPromotion s = .next (finish w)) ∧
    ∀ r ∈ w.pbc.scanReq, ∃ u, exec .scanRequestPromotion s = .next (finish u) ∧
      u = { w with clk := { w.clk with now := max w.clk.now (r.made + 501) } } ∧ 500 < u.clk.now - r.made) ∧
  ∀ s : State,
    let p := s.pbc
    let onBus : Who → Bay → Order → Option Trans := fun who b o =>
      some ⟨who, some b, o, false, false, p.health[b].state, false⟩
    let aged : Prop := ∃ r ∈ p.scanReq, 500 < s.clk.now - r.made
    let first : Option Request := p.class2.head?.or p.class3.head?
    (p.current ≠ none → arbitrate s = s) ∧
    (p.current = none → p.broadcast = true → arbitrate s = { s with pbc := { p with
      broadcast := false
      current := some ⟨.broadcast, none, .setOutputs ⟨false, false, .red⟩, false, false, .unseen, false⟩ } }) ∧
    (p.current = none → p.broadcast = false → p.line ≠ .normal → arbitrate s = s) ∧
    (p.current = none → p.broadcast = false → p.line = .normal →
      (∀ r ∈ p.scanReq, aged ∨ (p.outQ = [] ∧ first = none) → arbitrate s = { s with pbc := { p with
        scanReq := none, current := onBus .scan r.bay (.statusRead r.high) } }) ∧
      (¬aged → ∀ e es, p.outQ = e :: es → arbitrate s = { s with pbc := { p with
        outQ := es, current := onBus (.output e.marks) e.bay (.setOutputs p.images[e.bay]) } }) ∧
      (¬aged → p.outQ = [] → ∀ r ∈ first, arbitrate s = { s with pbc := { p with
        class2 := p.class2.tail
        class3 := if p.class2 = [] then p.class3.tail else p.class3
        current := onBus r.who r.bay r.order } }) ∧
      (p.scanReq = none → p.outQ = [] → first = none → arbitrate s = s))

/-- R203: SET PARAMETERS replaces every parameter and hands on those that changed. -/
def Obligations.SetParametersReplacesThemAll : Prop :=
  ∀ (tag auto : Byte) (p : Params) (s : State), tag ≠ 0 → p.margin < 256 → p.callLead < 256 → p.missLimit < 256 →
    p.overdueWindow < 256 → p.rotation < 256 → p.stagger < 256 → p.keepBand < 256 → p.tolerance < 256 →
    p.voltage < 65536 → p.refresh < 256 → p.validity < 256 → p.autoCheck = decide (auto = 1) → let w := wake s
    let cmd := Instr.setParameters tag (u8 p.margin ++ u8 p.callLead ++ u8 p.missLimit ++ u8 p.overdueWindow ++
      u8 p.rotation ++ u8 p.stagger ++ u8 p.keepBand ++ u8 p.tolerance ++ u16 p.voltage ++ u8 p.refresh ++
      u8 p.validity ++ [auto])
    let valid : Prop := p.margin ≤ 60 ∧ p.callLead ≤ 60 ∧ p.missLimit ≤ 120 ∧ p.overdueWindow ≤ 30 ∧ p.rotation ≤ 60 ∧
      1 ≤ p.stagger ∧ p.stagger ≤ 30 ∧ p.keepBand ≤ 50 ∧ p.tolerance ≤ 50 ∧ 200 ≤ p.voltage ∧ p.voltage ≤ 480 ∧
      p.refresh ≤ 120 ∧ 1 ≤ p.validity ∧ p.validity ≤ 24 ∧ (auto = 0 ∨ auto = 1)
    (¬valid → exec cmd s = .next (answered 0x0F tag .badValue [] w)) ∧
    (valid → p = w.params → exec cmd s = .next (answered 0x0F tag .ok [] w)) ∧
    (valid → ∃ u, exec cmd s = .next (answered 0x0F tag .ok [] u) ∧ u.params = p ∧
      (p.margin ≠ w.params.margin ∨ p.keepBand ≠ w.params.keepBand →
        ∀ b : Bay, u.hpl.plans[b].minute = some w.minute) ∧
      (p.margin = w.params.margin → p.keepBand = w.params.keepBand → p.callLead = w.params.callLead →
        p.stagger = w.params.stagger → p.tolerance = w.params.tolerance → p.validity = w.params.validity →
        u = { w with params := p }) ∧
      (p.margin = w.params.margin → p.keepBand = w.params.keepBand → p.callLead = w.params.callLead →
        p.tolerance = w.params.tolerance → p.validity = w.params.validity → u.dpc = w.dpc ∧ u.hpl = w.hpl) ∧
      (∀ e ∈ u.dpc.entries, ∃ e' ∈ w.dpc.entries, e'.id = e.id ∧ e'.minute = e.minute ∧ e'.due = e.due) ∧
      u.clu.mode = w.clu.mode ∧ LinkKept w u ∧ ChangesOnly [.clu, .params, .pbc, .hpl, .pal, .dpc] w u)

/-- R102, R103, R108: SET BUDGET, and the effective budget: the step with the latest minute at or before the minute of day,
or else the step with the latest minute of all; 0 with an empty schedule. R109, R111, R112: the steps of an allocation pass,
as operations: what is shed, who is admitted, and where the pointers go. -/
def Obligations.SetBudgetWorksOutTheBudget : Prop :=
  ((∀ minute : Nat, budgetAt [] minute = 0) ∧
    ∀ (xs : List BudgetStep) (minute : Nat) (x : BudgetStep), xs.Pairwise (fun a b => a.minute < b.minute) → x ∈ xs →
      (x.minute ≤ minute → (∀ y ∈ xs, y.minute ≤ minute → y.minute ≤ x.minute) → budgetAt xs minute = x.budget) ∧
      ((∀ y ∈ xs, minute < y.minute) → (∀ y ∈ xs, y.minute ≤ x.minute) → budgetAt xs minute = x.budget)) ∧
  (∀ (minute : Bool) (s : State), BudgetLaw s → let v := { s with pal := { s.pal with passDue := false } }
    passOnce minute s = examineClosing (normalAdmission (urgentAdmission (if minute = true then rotation v else v)))) ∧
  (∀ s : State, OneGrantLaw s → let v := shedToBudget s.pal.grants.length s
    let live := s.pal.grants.filter (·.state.live)
    let order := (live.filter fun g => decide (level g.bay s = .normal)).reverse ++
      (live.filter fun g => decide (level g.bay s ≠ .normal)).reverse
    ∃ n, n ≤ order.length ∧ v.pal.grants = shedGrants s.clk.tod (order.take n) s.pal.grants ∧
      totalPower live ≤ s.pal.budget + totalPower (order.take n) ∧
      (∀ k < n, s.pal.budget + totalPower (order.take k) < totalPower live) ∧
      (∀ g ∈ order.take n, if g.state = .pendingClose ∧ g.issued = false
        then v.pal.bays[g.bay].regrant = some s.clk.ticks ∧ v.pal.bays[g.bay].lastRelease = some s.clk.tod ∧
          v.pal.passDue = true ∧ g.bay ∉ v.pal.closing
        else v.pbc.images[g.bay].closed = false) ∧ ChangesOnly [.pbc, .pal] s v) ∧
  (∀ s : State, let v := urgentAdmission s
    let ring := (List.finRange 32).drop s.pal.urgentPtr.val ++ (List.finRange 32).take s.pal.urgentPtr.val
    let waiting := ring.filter fun b => candidate b s && decide (level b s = .urgent)
    let power : List Bay → Nat := fun bs => (bs.map (candidatePower · s)).sum
    ∃ n, n ≤ waiting.length ∧ let into := waiting.take n
      let grants := s.pal.grants ++ into.map (admitted · s)
      v.pal.urgentPtr = (match into.getLast? with | some b => b + 1 | none => s.pal.urgentPtr) ∧
      (into ≠ [] → committedLoad s + power into ≤ s.pal.budget) ∧
      (n = waiting.length → v = { s with pal := { s.pal with
        grants := grants, closing := s.pal.closing ++ into, urgentPtr := v.pal.urgentPtr } }) ∧
      (∀ b ∈ waiting[n]?, s.pal.budget < committedLoad s + power into + candidatePower b s ∧
        (OneGrantLaw s →
          let order := (s.pal.grants.filter fun g => g.state.live && decide (level g.bay s = .normal)).reverse
          let left : Nat → List Grant := fun k => shedGrants s.clk.tod (order.take k) grants
          let enough : Nat → Prop := fun k => candidatePower b s + totalPower (left k) ≤
            totalPower ((left k).filter fun g => decide (g.state = .releasing)) + s.pal.budget
          ∃ k, k ≤ order.length ∧ v.pal.grants = left k ∧ (enough k ∨ k = order.length) ∧ ∀ j < k, ¬enough j)) ∧
      ChangesOnly [.pbc, .pal] s v) ∧
  (∀ s : State, let v := normalAdmission s
    let ring := (List.finRange 32).drop s.pal.normalPtr.val ++ (List.finRange 32).take s.pal.normalPtr.val
    let power : List Bay → Nat := fun bs => (bs.map (candidatePower · s)).sum
    let into := (ring.filter fun b => candidate b s && decide (level b s = .normal)).foldl (fun bs b =>
      if committedLoad s + power bs + candidatePower b s ≤ s.pal.budget then bs ++ [b] else bs) []
    ((∃ b : Bay, candidate b s = true ∧ level b s = .urgent) → v = s) ∧
    ((∀ b : Bay, ¬(candidate b s = true ∧ level b s = .urgent)) → v = { s with pal := { s.pal with
      grants := s.pal.grants ++ into.map (admitted · s)
      closing := s.pal.closing ++ into
      normalPtr := match into.getLast? with | some b => b + 1 | none => s.pal.normalPtr } })) ∧
  ∀ (tag : Byte) (xs : List BudgetStep) (s : State), tag ≠ 0 → xs.length ≤ 61 →
    (∀ x ∈ xs, x.minute < 65536 ∧ x.budget < 65536) → let w := wake s
    let cmd := Instr.setBudget tag (u8 xs.length ++ xs.flatMap fun x => u16 x.minute ++ u16 x.budget)
    let valid : Prop := xs.length ≤ 8 ∧ (∀ x ∈ xs, x.minute ≤ 1439 ∧ x.budget ≤ 50000) ∧ (xs.map (·.minute)).Nodup
    (¬valid → exec cmd s = .next (answered 0x10 tag .badValue [] w)) ∧
    (valid → ∃ u, exec cmd s = .next (answered 0x10 tag .ok [] u) ∧ u.pal.schedule.Perm xs ∧
      u.pal.schedule.Pairwise (fun x y => x.minute < y.minute) ∧ u.pal.budget = budgetAt u.pal.schedule w.minute ∧
      (BudgetLaw w ∨ u.pal.budget ≠ w.pal.budget → BudgetLaw u) ∧
      (u.pal.budget = w.pal.budget → u = { w with pal := { w.pal with schedule := u.pal.schedule } }) ∧
      ChangesOnly [.pbc, .pal] w u)

/-- R87, R88: SET WEATHER clamps, restarts the age and plans every bay; the record becomes STALE after 1800 second ticks, and
WEATHER_STALE before that changes nothing (log 5). -/
def Obligations.WeatherIsTakenAndAges : Prop :=
  (∀ (tag h l : Byte) (s : State), tag ≠ 0 → let w := wake s
    let t := swd h l
    let v : Int := if t < -400 then -400 else if 400 < t then 400 else t
    ∃ u, exec (.setWeather tag [h, l]) s = .next (answered 0x11 tag (if v = t then .ok else .clamped) (s16 v) u) ∧
      u.hpl.weather = ⟨some v, some 0, false⟩ ∧
      (∀ b : Bay, u.hpl.plans[b] = computePlan b { w with hpl := { w.hpl with weather := u.hpl.weather } }) ∧
      ChangesOnly [.pbc, .hpl, .pal] w u) ∧
  ∀ s : State, let w := wake s
    (∀ a ∈ w.hpl.weather.age, 1800 ≤ a → exec .weatherStale s =
      .next (finish { w with hpl := { w.hpl with weather := { w.hpl.weather with stale := true } } })) ∧
    ((∀ a ∈ w.hpl.weather.age, a < 1800) → exec .weatherStale s = .next (finish w))

/-- R188, R208, R210: SET NOTICE MASK and ACK OVERDUE. -/
def Obligations.NoticesAreMaskedAndAcknowledged : Prop :=
  (∀ (tag h l : Byte) (s : State), tag ≠ 0 → let w := wake s
    (h.toNat ≥ 128 → exec (.setNoticeMask tag [h, l]) s = .next (answered 0x12 tag .badValue [] w)) ∧
    (h.toNat < 128 → ∃ u, exec (.setNoticeMask tag [h, l]) s = .next (answered 0x12 tag .ok [] u) ∧
      u.clu.mask.toNat = h.toNat * 256 + l.toNat ∧
      (∀ (b : Bay) (k : NoticeKind), hasKind u.clu.pending[b] k = (hasKind w.clu.pending[b] k && hasKind u.clu.mask k)) ∧
      (∀ k : NoticeKind, hasKind u.clu.depotPending k = (hasKind w.clu.depotPending k && hasKind u.clu.mask k)) ∧
      (∀ b : Bay, u.clu.sendMark[b] = (w.clu.sendMark[b] && hasKind u.clu.mask .overdue)) ∧
      u.clu.entryIds = (if hasKind u.clu.mask .entry then w.clu.entryIds else []) ∧ u.clu.mode = w.clu.mode ∧
      u.clu.linkRate = w.clu.linkRate ∧ u.clu.classes = w.clu.classes ∧ u.clu.rxQueue = w.clu.rxQueue ∧
      u.clu.replies = w.clu.replies ∧ u.clu.tx = w.clu.tx ∧ ChangesOnly [.clu] w u)) ∧
  ∀ (tag : Byte) (b : Bay) (s : State), tag ≠ 0 → let w := wake s
    ∃ u, exec (.ackOverdue tag [bayCode b]) s = .next (answered 0x2D tag .ok [] u) ∧
      (∀ (a : Bay) (k : NoticeKind), hasKind u.clu.pending[a] k =
        (hasKind w.clu.pending[a] k && !decide (a = b ∧ k = .overdue))) ∧
      (∀ a : Bay, u.clu.sendMark[a] = (w.clu.sendMark[a] && decide (a ≠ b))) ∧
      u = { w with clu := { w.clu with pending := u.clu.pending, sendMark := u.clu.sendMark } }

/-! ### The timetable -/

/-- R170, R171, R172: ADD DEPARTURE and CANCEL DEPARTURE. -/
def Obligations.DeparturesAreAddedAndCancelled : Prop :=
  (∀ (tag i n flags : Byte) (d t : Nat) (label : Vector Byte 8) (s : State), tag ≠ 0 → d < 65536 → t < 65536 →
    let w := wake s
    let cmd := Instr.addDeparture tag ([i] ++ u16 d ++ [n] ++ label.toList ++ u16 t ++ [flags])
    let valid : Prop := 1 ≤ i.toNat ∧ d ≤ 1439 ∧ 1 ≤ n.toNat ∧ n.toNat ≤ 32 ∧
      (∀ x ∈ label.toList, 0x20 ≤ x.toNat ∧ x.toNat ≤ 0x7E) ∧ (t = 0xFFFF ∨ (50 ≤ t ∧ t ≤ 260)) ∧ flags.toNat < 4 ∧
      ∀ e ∈ w.dpc.entries, e.id ≠ i.toNat
    (¬valid → exec cmd s = .next (answered 0x18 tag .badValue [] w)) ∧
    (valid → 64 ≤ w.dpc.entries.length → exec cmd s = .next (answered 0x18 tag .full [] w)) ∧
    (valid → w.dpc.entries.length < 64 → ∃ u, exec cmd s = .next (answered 0x18 tag .ok [] u) ∧
      (∃ e ∈ u.dpc.entries, e.id = i.toNat ∧ e.minute = d ∧ bayCode e.bay = n ∧ e.label = label.toList ∧
        e.target = (if t = 0xFFFF then none else some t) ∧ e.priority = flags.getLsbD 0 ∧
        e.restrictOk = flags.getLsbD 1 ∧ e.due = decide (d = w.minute) ∧ e.state.live = true) ∧
      (∀ e ∈ w.dpc.entries, ∃ e' ∈ u.dpc.entries, e'.id = e.id ∧ e'.minute = e.minute ∧ e'.bay = e.bay ∧
        e'.due = e.due) ∧
      u.dpc.entries.length = w.dpc.entries.length + 1 ∧ (TimetableLaw w → TimetableLaw u) ∧
      (∀ b : Bay, bayCode b ≠ n → u.dpc.bays[b] = w.dpc.bays[b]) ∧ u.dpc.lanes = w.dpc.lanes ∧
      u.clu.mode = w.clu.mode ∧ LinkKept w u ∧ ChangesOnly [.clu, .pbc, .hpl, .pal, .dpc] w u)) ∧
  ∀ (tag i : Byte) (s : State), tag ≠ 0 → let w := wake s
    let cmd := Instr.cancelDeparture tag [i]
    (i = 0 → exec cmd s = .next (answered 0x19 tag .badValue [] w)) ∧
    (i ≠ 0 → (∀ e ∈ w.dpc.entries, e.id ≠ i.toNat) → exec cmd s = .next (answered 0x19 tag .notFound [] w)) ∧
    (TimetableLaw w → ∀ e ∈ w.dpc.entries, e.id = i.toNat →
      (e.state ≠ .scheduled → e.state ≠ .called → exec cmd s = .next (answered 0x19 tag .wrongState [] w)) ∧
      (e.state = .scheduled ∨ e.state = .called → ∃ u, exec cmd s = .next (answered 0x19 tag .ok [] u) ∧
        (∃ e' ∈ u.dpc.entries, e'.id = e.id ∧ e'.state = .cancelled ∧ e'.terminalSince = some w.clk.ticks) ∧
        (hasKind w.clu.mask .entry = true → hasKind u.clu.depotPending .entry = true ∧ e.id ∈ u.clu.entryIds) ∧
        u.dpc.entries.map (·.id) = w.dpc.entries.map (·.id) ∧
        (∀ b : Bay, b ≠ e.bay → u.dpc.bays[b] = w.dpc.bays[b]) ∧ u.dpc.lanes = w.dpc.lanes ∧
        u.clu.mode = w.clu.mode ∧ LinkKept w u ∧ ChangesOnly [.clu, .pbc, .hpl, .pal, .dpc] w u))

/-! ### Requests for one bay -/

/-- R75, R80, R206: SET BAY CLASS and IDENTIFY. -/
def Obligations.CoachesGetClassAndIdentity : Prop :=
  (∀ (tag c : Byte) (b : Bay) (s : State), tag ≠ 0 → let w := wake s
    let cmd := Instr.setBayClass tag [bayCode b, c]
    (8 < c.toNat → exec cmd s = .next (answered 0x21 tag .badValue [] w)) ∧
    (c.toNat ≤ 8 → w.dpc.bays[b].state = .empty → exec cmd s = .next (answered 0x21 tag .wrongState [] w)) ∧
    (c.toNat ≤ 8 → w.dpc.bays[b].state ≠ .empty → ∃ u, exec cmd s = .next (answered 0x21 tag .ok [] u) ∧
      (∀ a : Bay, u.clr.idents[a] = if a = b then { w.clr.idents[b] with cls := c.toNat } else w.clr.idents[a]) ∧
      u.clr.slots = w.clr.slots ∧
      (effClass b u = effClass b w → u = { w with clr := { w.clr with idents := u.clr.idents } }) ∧
      (effClass b u ≠ effClass b w →
        u.hpl.plans[b] = computePlan b { w with clr := { w.clr with idents := u.clr.idents } }) ∧
      (∀ a : Bay, a ≠ b → u.hpl.plans[a] = w.hpl.plans[a]) ∧ ChangesOnly [.pbc, .clr, .hpl, .pal] w u)) ∧
  ∀ (tag : Byte) (b : Bay) (s : State), tag ≠ 0 → let w := wake s
    let cmd := Instr.identify tag [bayCode b]
    let offline : Prop := w.pbc.health[b].state = .offline
    let busy : Prop := w.clr.idents[b].state = .waiting ∨ w.clr.idents[b].state = .running
    (offline → exec cmd s = .next (answered 0x2E tag .offline [] w)) ∧
    (¬offline → w.scs.reports[b].plugged = false → exec cmd s = .next (answered 0x2E tag .wrongState [] w)) ∧
    (¬offline → w.scs.reports[b].plugged = true → busy → exec cmd s = .next (answered 0x2E tag .already [] w)) ∧
    (¬offline → w.scs.reports[b].plugged = true → ¬busy →
      ∃ u, exec cmd s = .next (answered 0x2E tag .ok [] u) ∧
        (u.clr.idents[b].state = .running ∨ u.clr.idents[b].state = .waiting) ∧
        u.clr.idents[b].fleet = w.clr.idents[b].fleet ∧ u.clr.idents[b].cls = w.clr.idents[b].cls ∧
        (w.clr.slots[b].state = .idle → u.clr.idents[b].state = .running ∧ u.clr.slots[b].state = .sending ∧
          u.clr.slots[b].requester = some .clr ∧ u.clr.slots[b].message = some .ident ∧
          u.clr.slots[b].busClass = some .three) ∧
        u.frs.bays[b].complete = false ∧ u.frs.bays[b].readState = .idle ∧
        u.frs.bays[b].chain = w.frs.bays[b].chain ∧
        (w.frs.bays[b].readState ≠ .idle → u.frs.bays[b].stale = true) ∧
        u.clu.mode = w.clu.mode ∧ LinkKept w u ∧ u.dpc.entries.map (·.id) = w.dpc.entries.map (·.id) ∧
        ChangesOnly [.clu, .pbc, .clr, .hpl, .pal, .lce, .frs, .dpc] w u)

/-- R182 to R184, R186: HOLD BAY and RELEASE BAY. -/
def Obligations.BaysAreHeldAndReleased : Prop :=
  (∀ (tag : Byte) (b : Bay) (s : State), tag ≠ 0 → let w := wake s
    let cmd := Instr.holdBay tag [bayCode b]
    let old := w.dpc.bays[b]
    (old.state = .empty ∨ old.state = .standing → exec cmd s = .next (answered 0x22 tag .wrongState [] w)) ∧
    (old.state ≠ .empty → old.state ≠ .standing → hasHold old.holds .host = true →
      exec cmd s = .next (answered 0x22 tag .already [] w)) ∧
    (old.state ≠ .empty → old.state ≠ .standing → hasHold old.holds .host = false →
      ∃ u, exec cmd s = .next (answered 0x22 tag .ok [] u) ∧ u.dpc.bays[b].state = .held ∧
        u.dpc.bays[b].ret = (if old.state = .held then old.ret else some old.state) ∧
        (∀ r : HoldReason, r ≠ .fault → hasHold u.dpc.bays[b].holds r =
          (decide (r = .host) || (decide (old.state = .held) && hasHold old.holds r))) ∧
        u.dpc.bays[b].cur = old.cur ∧ u.dpc.bays[b].overdue = old.overdue ∧
        u.dpc.bays[b].overdueCount = old.overdueCount ∧ u.dpc.entries = w.dpc.entries ∧
        (old.state ≠ .held → u.pbc.images[b].aspect = .red) ∧
        (hasKind w.clu.mask .held = true → hasKind u.clu.pending[b] .held = true) ∧
        (old.state = .ready → u.hpl.plans[b].level = .none) ∧ (∀ a : Bay, a ≠ b → u.dpc.bays[a] = w.dpc.bays[a]) ∧
        u.clu.mode = w.clu.mode ∧ LinkKept w u ∧ u.dpc.lanes = w.dpc.lanes ∧
        ChangesOnly [.clu, .pbc, .hpl, .pal, .dpc] w u)) ∧
  ∀ (tag : Byte) (b : Bay) (s : State), tag ≠ 0 → let w := wake s
    let cmd := Instr.releaseBay tag [bayCode b]
    let old := w.dpc.bays[b]
    let held : Prop := old.state = .held ∧ (hasHold old.holds .host = true ∨ hasHold old.holds .signal = true)
    let rest := dropHold (dropHold old.holds .host) .signal
    (¬held → exec cmd s = .next (answered 0x23 tag .wrongState [] w)) ∧
    (held → rest ≠ 0 → (hasHold rest .fault && faultCondition b w) = false →
      ∃ u, exec cmd s = .next (answered 0x23 tag .ok [] u) ∧ u.dpc.bays[b] = { old with holds := rest } ∧
        u = { w with dpc := { w.dpc with bays := u.dpc.bays } } ∧ ∀ a : Bay, a ≠ b → u.dpc.bays[a] = w.dpc.bays[a]) ∧
    (held → rest = 0 → ∃ u, exec cmd s = .next (answered 0x23 tag .ok [] u) ∧ u.dpc.bays[b].state ≠ .held ∧
      u.dpc.bays[b].holds = 0 ∧ u.dpc.bays[b].ret = none ∧
      (old.ret = some .cleared → pathClear b w = true → w.dpc.readingReleased = true →
        w.scs.reports[b].plugged = false → u.dpc.bays[b].state = .cleared ∧ u.pbc.images[b].aspect = .green ∧
        u.dpc.bays[b].overdue = old.overdue ∧ u.dpc.bays[b].overdueCount = old.overdueCount) ∧
      (∀ a : Bay, a ≠ b → u.dpc.bays[a] = w.dpc.bays[a]) ∧ u.clu.mode = w.clu.mode ∧ LinkKept w u ∧
      u.dpc.lanes = w.dpc.lanes ∧ ChangesOnly [.clu, .pbc, .hpl, .pal, .dpc] w u)

/-- R99, R147, R165, R187: WAIVE HEAT, WAIVE LAMP and WAIVE FAULT. R177 to R179: a STANDING bay whose last condition the heat
waiver makes true becomes READY, and with its coach unplugged already it goes on to RELEASING and CLEARED. -/
def Obligations.WaiversAreSet : Prop :=
  (∀ (tag : Byte) (b : Bay) (s : State), tag ≠ 0 → let w := wake s
    (w.dpc.bays[b].state = .empty →
      exec (.waiveHeat tag [bayCode b]) s = .next (answered 0x24 tag .wrongState [] w) ∧
      exec (.waiveLamp tag [bayCode b]) s = .next (answered 0x25 tag .wrongState [] w)) ∧
    (w.dpc.bays[b].state ≠ .empty → w.dpc.bays[b].heatWaiver = true →
      exec (.waiveHeat tag [bayCode b]) s = .next (answered 0x24 tag .ok [] w)) ∧
    (w.dpc.bays[b].state ≠ .empty → w.lce.waivers[b] = true →
      exec (.waiveLamp tag [bayCode b]) s = .next (answered 0x25 tag .ok [] w)) ∧
    (w.dpc.bays[b].state ≠ .empty → w.dpc.bays[b].heatWaiver = false →
      ∃ u, exec (.waiveHeat tag [bayCode b]) s = .next (answered 0x24 tag .ok [] u) ∧
        u.dpc.bays[b].heatWaiver = true ∧ cabinReady b u = true ∧ (∀ a : Bay, a ≠ b → u.dpc.bays[a] = w.dpc.bays[a]) ∧
        (w.dpc.bays[b].state = .standing →
          let waived := { w with dpc := { w.dpc with
            bays := w.dpc.bays.set b { w.dpc.bays[b] with heatWaiver := true } } }
          let goes : Prop := pathClear b w = true ∧ w.dpc.readingReleased = true
          (readyConditions b waived = false → u.dpc = waived.dpc) ∧
          (readyConditions b waived = true →
            (hasKind w.clu.mask .ready = true → hasKind u.clu.pending[b] .ready = true) ∧
            (w.scs.reports[b].plugged = true → u.dpc.bays[b].state = .ready ∧ u.pbc.images[b].aspect = .amber) ∧
            (w.scs.reports[b].plugged = false → ¬goes →
              u.dpc.bays[b].state = .releasing ∧ u.pbc.images[b].aspect = .red) ∧
            (w.scs.reports[b].plugged = false → goes →
              u.dpc.bays[b].state = .cleared ∧ u.pbc.images[b].aspect = .green ∧
              (∃ e ∈ u.dpc.entries, w.dpc.bays[b].cur = some e.id ∧ e.state = .cleared) ∧
              (hasKind w.clu.mask .cleared = true → hasKind u.clu.pending[b] .cleared = true)))) ∧
        u.dpc.lanes = w.dpc.lanes ∧ u.clu.mode = w.clu.mode ∧ LinkKept w u ∧
        ChangesOnly [.clu, .pbc, .hpl, .pal, .dpc] w u) ∧
    (w.dpc.bays[b].state ≠ .empty → w.lce.waivers[b] = false →
      ∃ u, exec (.waiveLamp tag [bayCode b]) s = .next (answered 0x25 tag .ok [] u) ∧
        lampCondition b u = true ∧ (∀ a : Bay, u.lce.waivers[a] = (decide (a = b) || w.lce.waivers[a])) ∧
        u.lce.results = w.lce.results ∧ u.lce.queue = w.lce.queue ∧ u.lce.ctxs = w.lce.ctxs ∧
        u.lce.plans = w.lce.plans ∧ (∀ a : Bay, a ≠ b → u.dpc.bays[a] = w.dpc.bays[a]) ∧ u.dpc.lanes = w.dpc.lanes ∧
        u.clu.mode = w.clu.mode ∧ LinkKept w u ∧ ChangesOnly [.clu, .pbc, .hpl, .pal, .lce, .dpc] w u)) ∧
  ∀ (tag h l : Byte) (b : Bay) (s : State), tag ≠ 0 → let w := wake s
    let cmd := Instr.waiveFault tag [bayCode b, h, l]
    let code := h.toNat * 256 + l.toNat
    (code = 0 → exec cmd s = .next (answered 0x26 tag .badValue [] w)) ∧
    (code ≠ 0 → (∀ r ∈ w.frs.bays[b].chain, r.code ≠ code) →
      exec cmd s = .next (answered 0x26 tag .notFound [] w)) ∧
    (code ≠ 0 → (∃ r ∈ w.frs.bays[b].chain, r.code = code) →
      ∃ u, exec cmd s = .next (answered 0x26 tag .ok [] u) ∧
        u.frs.bays[b] = { w.frs.bays[b] with
          chain := w.frs.bays[b].chain.map fun r => if r.code = code then { r with waived := true } else r } ∧
        (∀ a : Bay, a ≠ b → u.frs.bays[a] = w.frs.bays[a] ∧ u.dpc.bays[a] = w.dpc.bays[a]) ∧
        u.frs.free = w.frs.free ∧ u.frs.table = w.frs.table ∧
        (u.frs.bays[b] = w.frs.bays[b] → u = w) ∧
        (u.frs.bays[b] ≠ w.frs.bays[b] → hasKind w.clu.mask .faultsChanged = true →
          hasKind u.clu.pending[b] .faultsChanged = true) ∧
        u.clu.mode = w.clu.mode ∧ LinkKept w u ∧ ChangesOnly [.clu, .pbc, .hpl, .pal, .frs, .dpc] w u)

/-- R131 to R135, R141, R143: START LAMP CHECK and CANCEL LAMP CHECK. An aborted check's result carries every step measured,
the one that was being cleared too (log 23). R134 says that a free context takes the bay up and names none: that it is
`freeContext`, the free one of the lowest number, is the model's choice (DESIGN CHOICE, log 45). -/
def Obligations.LampChecksAreStartedAndCancelled : Prop :=
  (∀ (tag : Byte) (b : Bay) (s : State), tag ≠ 0 → let w := wake s
    let cmd := Instr.startLampCheck tag [bayCode b]
    let at_work : Prop := b ∈ w.lce.queue ∨ b ∈ ctxBays w
    let ready : Prop := w.scs.reports[b].plugged = true ∧ bayPlan b w ≠ []
    (at_work → exec cmd s = .next (answered 0x27 tag .already [] w)) ∧
    (¬at_work → ¬ready → exec cmd s = .next (answered 0x27 tag .wrongState [] w)) ∧
    (¬at_work → ready → ∃ u, exec cmd s = .next (answered 0x27 tag .ok [] u) ∧
      ((b ∈ u.lce.queue ∧ ¬ b ∈ ctxBays u) ∨ (¬ b ∈ u.lce.queue ∧ b ∈ ctxBays u)) ∧
      (w.lce.queue = [] → eligible b w = false ∨ freeContext w = none →
        u = { w with lce := { w.lce with queue := [b] } }) ∧
      (w.lce.queue = [] → eligible b w = true → ∀ c ∈ freeContext w, u.lce.queue = [] ∧
        (∀ k : CtxId, k ≠ c → u.lce.ctxs[k] = w.lce.ctxs[k]) ∧ u.pal.bays[b].pause = true ∧
        ∀ r ∈ effRec b w, u.lce.ctxs[c] = some ⟨b, .pausing, .command, lampPlan (effClass b w) w, effClass b w, r.settle,
          r.block, 0, false, none, [], none, none, .none, false, none⟩) ∧
      u.lce.results = w.lce.results ∧ u.lce.waivers = w.lce.waivers ∧ u.lce.plans = w.lce.plans ∧
      ChangesOnly [.pbc, .pal, .lce] w u)) ∧
  ∀ (tag : Byte) (b : Bay) (s : State), tag ≠ 0 → let w := wake s
    let cmd := Instr.cancelLampCheck tag [bayCode b]
    LampLaw w →
    (b ∈ w.lce.queue → exec cmd s = .next (answered 0x28 tag .ok []
      { w with lce := { w.lce with queue := w.lce.queue.filter (· != b) } })) ∧
    (¬ b ∈ w.lce.queue → ¬ b ∈ ctxBays w → exec cmd s = .next (answered 0x28 tag .wrongState [] w)) ∧
    ∀ c ∈ ctxOf b w, ∀ x ∈ w.lce.ctxs[c],
      (x.phase = .ending → exec cmd s = .next (answered 0x28 tag .ok [] w)) ∧
      (x.phase ≠ .ending → ∃ u, exec cmd s = .next (answered 0x28 tag .ok [] u) ∧
        u.lce.results[b] = some ⟨w.clk.tod, w.clk.ticks, .aborted, some .cancelled, x.cls, x.baseline, x.entries⟩ ∧
        u.pal.bays[b].pause = false ∧ (hasKind w.clu.mask .lampDone = true → hasKind u.clu.pending[b] .lampDone = true) ∧
        (∀ k : CtxId, ∀ y ∈ u.lce.ctxs[k], y.bay = b → y.phase = .ending ∧ y.outcome = some .aborted) ∧
        u.frs.bays[b].chain = w.frs.bays[b].chain ∧ u.lce.waivers = w.lce.waivers ∧ u.lce.plans = w.lce.plans ∧
        u.clu.mode = w.clu.mode ∧ LinkKept w u ∧
        ChangesOnly [.clu, .pbc, .clr, .hpl, .pal, .lce, .frs, .dpc] w u)

/-- R155, R156, R159, R164: REFRESH FAULTS and CLEAR PART FAULT. -/
def Obligations.FaultsAreRefreshedAndCleared : Prop :=
  (∀ (tag : Byte) (b : Bay) (s : State), tag ≠ 0 → let w := wake s
    let cmd := Instr.refreshFaults tag [bayCode b]
    let f := w.frs.bays[b]
    (f.readState ≠ .idle → exec cmd s = .next (answered 0x2B tag .already [] w)) ∧
    (f.readState = .idle → w.scs.reports[b].plugged = false →
      exec cmd s = .next (answered 0x2B tag .wrongState [] w)) ∧
    (f.readState = .idle → w.scs.reports[b].plugged = true →
      ∃ u, exec cmd s = .next (answered 0x2B tag .ok [] u) ∧ u.frs.bays[b].reported = [] ∧ u.frs.bays[b].page = 0 ∧
        u.frs.bays[b].chain = f.chain ∧ u.frs.bays[b].causes = f.causes ∧ u.frs.bays[b].complete = f.complete ∧
        (w.clr.slots[b].state ≠ .idle → u.frs.bays[b].readState = .waiting ∧ u.frs.bays[b].stale = f.stale ∧
          u.clr.slots[b] = { w.clr.slots[b] with waiting := { w.clr.slots[b].waiting with frs := true } }) ∧
        (w.clr.slots[b].state = .idle → w.pbc.health[b].state ≠ .offline → u.frs.bays[b].readState = .reading ∧
          u.frs.bays[b].stale = f.stale ∧ u.clr.slots[b].state = .sending ∧ u.clr.slots[b].requester = some .frs ∧
          u.clr.slots[b].message = some (.readFaults 0) ∧ u.clr.slots[b].busClass = some .three) ∧
        (w.clr.slots[b].state = .idle → w.pbc.health[b].state = .offline → w.clr.slots[b].abandoned = false →
          u.frs.bays[b].readState = .idle ∧ u.frs.bays[b].stale = true ∧ u.frs.bays[b].endOfRead = some w.clk.ticks) ∧
        u.frs.free = w.frs.free ∧ u.clu.mode = w.clu.mode ∧ LinkKept w u ∧
        u.dpc.entries.map (·.id) = w.dpc.entries.map (·.id) ∧
        ChangesOnly [.clu, .pbc, .clr, .hpl, .pal, .lce, .frs, .dpc] w u)) ∧
  ∀ (tag v : Byte) (b : Bay) (s : State), tag ≠ 0 → let w := wake s
    let cmd := Instr.clearPartFault tag [bayCode b, v]
    let origin : Origin := if v = 1 then .lamp else .heater
    let f := w.frs.bays[b]
    (v ≠ 1 → v ≠ 2 → exec cmd s = .next (answered 0x2C tag .badValue [] w)) ∧
    (v = 1 ∨ v = 2 → ∃ u, exec cmd s = .next (answered 0x2C tag .ok [] u) ∧
      u.frs.bays[b] = { f with
        chain := f.chain.filter (fun r => r.origin != origin)
        causes := if v = 1 then { f.causes with lamp := false } else { f.causes with heater := false } } ∧
      u.frs.free + u.frs.bays[b].chain.length = w.frs.free + f.chain.length ∧
      (∀ a : Bay, a ≠ b → u.frs.bays[a] = w.frs.bays[a] ∧ u.dpc.bays[a] = w.dpc.bays[a]) ∧
      (v = 2 → u.pal.bays[b].faultBlock = false) ∧ u.frs.table = w.frs.table ∧
      (v = 1 → u.frs.bays[b] = f → u = w) ∧ u.dpc.lanes = w.dpc.lanes ∧ u.clu.mode = w.clu.mode ∧ LinkKept w u ∧
      ChangesOnly [.clu, .pbc, .hpl, .pal, .frs, .dpc] w u)

/-- R189, R190: GATE HOLD, GATE RELEASE, the level on the pin and its 50 ms debounce; that a pin pulled low by the latch reads
low is the model's (log 19), and an expiry with no debounce running changes nothing (log 4). R179: the released reading clears
the RELEASING bays whose path is clear. -/
def Obligations.GateLineIsHeldAndRead : Prop :=
  (∀ (tag : Byte) (s : State), tag ≠ 0 → let w := wake s
    (w.dpc.latchReleased = false → exec (.gateHold tag []) s = .next (answered 0x32 tag .ok [] w)) ∧
    (w.dpc.latchReleased = true → ∃ u, exec (.gateHold tag []) s = .next (answered 0x32 tag .ok [] u) ∧
      u.dpc = { w.dpc with latchReleased := false, pinHigh := false, debounce :=
        if w.dpc.pinHigh = false then w.dpc.debounce
        else if w.dpc.readingReleased = true then some w.clk.now else none } ∧
      (hasKind w.clu.mask .gate = true → hasKind u.clu.depotPending .gate = true) ∧
      u.clu = { w.clu with depotPending := u.clu.depotPending } ∧ ChangesOnly [.clu, .dpc] w u) ∧
    (w.clu.mode ≠ .run → exec (.gateRelease tag []) s = .next (answered 0x33 tag .wrongMode [] w)) ∧
    (w.clu.mode = .run → w.dpc.latchReleased = true →
      exec (.gateRelease tag []) s = .next (answered 0x33 tag .ok [] w)) ∧
    (w.clu.mode = .run → w.dpc.latchReleased = false →
      ∃ u, exec (.gateRelease tag []) s = .next (answered 0x33 tag .ok [] u) ∧
        u.dpc = { w.dpc with latchReleased := true } ∧
        (hasKind w.clu.mask .gate = true → hasKind u.clu.depotPending .gate = true) ∧
        u.clu = { w.clu with depotPending := u.clu.depotPending } ∧ ChangesOnly [.clu, .dpc] w u)) ∧
  (∀ (high : Bool) (s : State), let w := wake s
    let level := high && w.dpc.latchReleased
    (level = w.dpc.pinHigh → exec (.gatePinChange high) s = .next (finish w)) ∧
    (level ≠ w.dpc.pinHigh → exec (.gatePinChange high) s = .next (finish { w with dpc := { w.dpc with
      pinHigh := level, debounce := if level = w.dpc.readingReleased then none else some w.clk.now } }))) ∧
  ∀ s : State, let w := wake s
    (w.dpc.debounce = none → exec .gateDebounceExpiry s = .next (finish w)) ∧
    ∀ t ∈ w.dpc.debounce, ∃ u, exec .gateDebounceExpiry s = .next (finish u) ∧
      u.clk = { w.clk with now := max w.clk.now (t + 50) } ∧ u.dpc.readingReleased = w.dpc.pinHigh ∧
      u.dpc.debounce = none ∧ u.dpc.latchReleased = w.dpc.latchReleased ∧
      (hasKind w.clu.mask .gate = true → hasKind u.clu.depotPending .gate = true) ∧
      (w.dpc.pinHigh = true → ∀ b : Bay, hasHold u.dpc.bays[b].holds .gate = false) ∧
      (w.dpc.pinHigh = true → TimetableLaw w → CurrentLaw w → HoldLaw w → ∀ b : Bay, w.dpc.bays[b].state = .releasing →
        w.scs.reports[b].plugged = false → ∀ e ∈ curEntry b w, e.state = .called → w.dpc.bays[b].relEntry = some e.id →
        (pathClear b w = false → u.dpc.bays[b] = w.dpc.bays[b]) ∧
        (pathClear b w = true → u.dpc.bays[b].state = .cleared ∧ u.pbc.images[b].aspect = .green ∧
          (∃ e' ∈ u.dpc.entries, e'.id = e.id ∧ e'.state = .cleared) ∧ u.dpc.bays[b].overdueCount = 0 ∧
          u.dpc.bays[b].overdue =
            (if w.params.overdueWindow = 0 then none else some (w.clk.ticks + 60 * w.params.overdueWindow)) ∧
          (hasKind w.clu.mask .cleared = true → hasKind u.clu.pending[b] .cleared = true))) ∧
      (w.dpc.pinHigh = false → ∀ b : Bay, w.dpc.bays[b].onTheWay = true → w.scs.reports[b].plugged = false →
        u.dpc.bays[b].state = .held ∧ hasHold u.dpc.bays[b].holds .gate = true ∧
        (w.dpc.bays[b].state = .cleared → u.pbc.images[b].aspect = .red)) ∧
      u.dpc.lanes = w.dpc.lanes ∧ u.clu.mode = w.clu.mode ∧ LinkKept w u ∧
      ChangesOnly [.clk, .clu, .pbc, .hpl, .pal, .dpc] w u

/-! ### The bus, the scan and the relays -/

/-- R27, R36, R51 to R53, R56 to R61, R117, R125: how a scan's STATUS READ ends. Returned bytes that sum to 0 are the bay's
report; two attempts with the address NAKed change no report and raise the failure count by 2. R119: a second overloaded
report releases the grant. R176 to R181: what an accepted plug or presence change and the report's conditions do to the
clearance of a bay whose pedestal stays ONLINE and whose relay slot is IDLE; a bay READY again after RELEASING, without having
been STANDING since, needs neither cabin nor lamps. R166, R168: a bay that becomes EMPTY keeps no record but one that the PAL
makes of the same report, and its freeing raises FAULTS_CHANGED. R52, R54: a round that completes after its 250 ms starts the next one in the
same event, which clears ROUND_SLOW when the effective list is empty. A command for a transaction that is not on the bus
changes nothing (log 7). -/
def Obligations.ScanReportsUpdateTheBay : Prop :=
  (∀ (as : List Attempt) (s : State), let w := wake s
    (∀ t ∈ w.pbc.current, t.who ≠ .scan) → exec (.scanStatusReadOutcome as) s = .next (finish w)) ∧
  ∀ s : State, let w := wake s
    ∀ t ∈ w.pbc.current, t.who = .scan → t.retry = false → ∀ b ∈ t.bay,
      (∀ h : Bool, t.order = .statusRead h → ∀ f rs rl ch cl th tl : Byte,
        let old := w.scs.reports[b]
        let raw := ch.toNat % 16 * 256 + cl.toNat
        let new : Report :=
          { plugged := if f.getLsbD 7 ≠ old.plugged ∧ old.plugCand = true then f.getLsbD 7 else old.plugged
            occupied := if f.getLsbD 6 ≠ old.occupied ∧ old.presCand = true then f.getLsbD 6 else old.occupied
            closed := f.getLsbD 5, pressed := f.getLsbD 4, supplyOn := f.getLsbD 3, high := f.getLsbD 2
            aspect := aspectOf f, current := raw, cabin := cabinOf th tl, age := some 0
            plugCand := decide (f.getLsbD 7 ≠ old.plugged) && !old.plugCand
            presCand := decide (f.getLsbD 6 ≠ old.occupied) && !old.presCand }
        let v := { w with scs := { w.scs with reports := w.scs.reports.set b new } }
        let d := w.dpc.bays[b]
        let pmeas := raw * w.params.voltage * 1732 / 1000000
        let exit := if d.onTheWay = true then NoticeKind.departed else .unclearedExit
        let goes : Prop := pathClear b w = true ∧ w.dpc.readingReleased = true
        let calm : Prop := w.pbc.health[b] = ⟨.online, 0⟩ ∧ w.clr.slots[b].state = .idle
        ∃ u, exec (.scanStatusReadOutcome [.done (checked [f, rs, rl, ch, cl, th, tl])]) s = .next (finish u) ∧
          u.scs.reports[b] = new ∧
          (∀ a : Bay, a ≠ b → u.scs.reports[a] = w.scs.reports[a]) ∧ u.pbc.health[b] = ⟨.online, 0⟩ ∧
          u.pbc.lastAck[b] = some w.clk.ticks ∧ u.pbc.broadcastSince[b] = false ∧
          (f.getLsbD 4 = true → u.dpc.bays[b].state = .empty ∨ u.dpc.bays[b].state = .standing ∨
            (u.dpc.bays[b].state = .held ∧ hasHold u.dpc.bays[b].holds .stop = true)) ∧
          (f.getLsbD 4 = false → hasHold u.dpc.bays[b].holds .stop = false) ∧
          (f.getLsbD 6 = false → old.occupied = true → old.presCand = true → u.dpc.bays[b].state = .empty) ∧
          (f.getLsbD 6 = true → old.occupied = false → old.presCand = true → u.dpc.bays[b].state ≠ .empty) ∧
          u.pal.bays[b].pmeas = (if f.getLsbD 2 then pmeas else w.pal.bays[b].pmeas) ∧
          (calm → new.plugged = old.plugged → new.occupied = old.occupied → f.getLsbD 4 = false → f.getLsbD 2 = true →
            BudgetLaw w → OneGrantLaw w → ClosingLaw w → ∀ g ∈ grantOf b w, g.state = .confirming ∨ g.state = .active →
            g.power * 125 / 100 < pmeas →
            (g.overload = 1 → grantOf b u = some { opened w.clk.tod g with overload := 2 } ∧
              u.pal.bays[b].faultBlock = true ∧ u.pbc.images[b].closed = false ∧
              (hasKind w.clu.mask .heatFault = true → hasKind u.clu.pending[b] .heatFault = true) ∧
              ((∃ r ∈ u.frs.bays[b].chain, r.code = 0xF202 ∧ r.origin = .heater ∧ r.active = true ∧ r.last = w.minute) ∨
                u.frs.bays[b].causes.heater = true)) ∧
            (g.overload = 0 → d.state = .standing → old.plugged = true → w.scs.roundList[w.scs.pos + 1]? ≠ none →
              grantOf b u = some { g with
                state := .active, changeTod := if g.state = .confirming then w.clk.tod else g.changeTod, overload := 1 })) ∧
          (new.plugged = old.plugged → old.occupied = true → new.occupied = false → d.state ≠ .empty →
            w.pbc.health[b] = ⟨.online, 0⟩ →
            u.dpc.bays[b].holds = 0 ∧ u.dpc.bays[b].ret = none ∧ u.dpc.bays[b].overdue = none ∧
            u.dpc.bays[b].overdueCount = 0 ∧ u.dpc.bays[b].heatWaiver = false ∧ u.pbc.images[b].aspect = .dark ∧
            (hasKind w.clu.mask exit = true → hasKind u.clu.pending[b] exit = true) ∧
            (∀ r ∈ u.frs.bays[b].chain, r.origin = .heater) ∧
            (hasKind w.clu.mask .faultsChanged = true → hasKind u.clu.pending[b] .faultsChanged = true) ∧
            (TimetableLaw w → CurrentLaw w → ∀ e ∈ curEntry b w, d.onTheWay = true ∨ e.state = .called →
              ∃ e' ∈ u.dpc.entries, e'.id = e.id ∧ e'.terminalSince = some w.clk.ticks ∧
                e'.state = if d.onTheWay = true then .departed else .unclearedExit)) ∧
          (old.occupied = false → new.occupied = true → d.state = .empty → hasKind w.clu.mask .arrived = true →
            hasKind u.clu.pending[b] .arrived = true) ∧
          (calm → old.plugged = true → new.plugged = false → new.occupied = old.occupied → d.state = .ready →
            readyConditions b v = true →
            (¬goes → u.dpc.bays[b].state = .releasing ∧ u.pbc.images[b].aspect = .red) ∧
            (goes → u.dpc.bays[b].state = .cleared ∧ u.pbc.images[b].aspect = .green ∧
              (∃ e' ∈ u.dpc.entries, d.cur = some e'.id ∧ e'.state = .cleared) ∧
              (hasKind w.clu.mask .cleared = true → hasKind u.clu.pending[b] .cleared = true))) ∧
          (calm → old.plugged = false → new.plugged = true → new.occupied = old.occupied → f.getLsbD 4 = false →
            w.clr.idents[b].state ≠ .waiting → w.clr.idents[b].state ≠ .running → d.state = .cleared ∨ d.state = .releasing →
            u.dpc.bays[b].state = .standing ∧ u.pbc.images[b].aspect = .red ∧
            (d.state = .cleared → u.dpc.bays[b].overdue = none ∧ u.dpc.bays[b].overdueCount = 0 ∧
              (TimetableLaw w → CurrentLaw w → ∀ e ∈ curEntry b w, e.state = .cleared →
                ∃ e' ∈ u.dpc.entries, e'.id = e.id ∧ (e'.state = .called ∨ e'.state = .scheduled)))) ∧
          (calm → new.plugged = old.plugged → new.occupied = old.occupied → f.getLsbD 4 = false → f.getLsbD 2 = false →
            (d.state = .ready → readyConditions b v = false →
              u.dpc.bays[b].state = .standing ∧ u.pbc.images[b].aspect = .red) ∧
            (d.state = .ready → d.released = true → new.plugged = true → (∃ e ∈ curEntry b w, e.state = .called) →
              faultCondition b w = true → w.clu.mode = .run → d.inService = true → laneOf b w ≠ none →
              u.dpc.bays[b].state = .ready) ∧
            (d.state = .standing → readyConditions b v = true → new.plugged = true →
              u.dpc.bays[b].state = .ready ∧ u.pbc.images[b].aspect = .amber ∧
              (hasKind w.clu.mask .ready = true → hasKind u.clu.pending[b] .ready = true))) ∧
          (w.scs.round = .running → ∀ e ∈ w.scs.roundList[w.scs.pos + 1]?,
            u.scs.pos = w.scs.pos + 1 ∧ u.pbc.scanReq = some ⟨e.bay, e.high, w.clk.now⟩ ∧ u.scs.round = .running) ∧
          (w.scs.round = .running → w.scs.roundList[w.scs.pos + 1]? = none →
            u.scs.lastDuration = min 65535 (w.clk.now - w.scs.roundStart) ∧
            u.pal.meterSum = ((List.finRange 32).map fun a => u.pal.bays[a].pmeas).sum ∧
            u.scs.slow = decide (effectiveList w ≠ [] ∧ 2000 < w.clk.now - w.scs.roundStart)) ∧
          u.clu.mode = w.clu.mode ∧ LinkKept w u ∧ u.dpc.lanes = w.dpc.lanes ∧
          ChangesOnly [.clu, .pbc, .scs, .clr, .hpl, .pal, .lce, .frs, .dpc] w u) ∧
      (t.order = .statusRead true ∨ t.order = .statusRead false → t.acked = false →
        let n := w.pbc.health[b].count + 2
        ∃ u, exec (.scanStatusReadOutcome [.nakAddress, .nakAddress]) s = .next (finish u) ∧
          u.scs.reports = w.scs.reports ∧ u.pbc.health[b] = (if n ≥ 3 then ⟨.offline, 3⟩ else ⟨.suspect, n⟩) ∧
          u.pbc.lastAck = w.pbc.lastAck ∧ (u.pbc.health[b].state ≠ w.pbc.health[b].state →
            hasKind w.clu.mask .pedestal = true → hasKind u.clu.pending[b] .pedestal = true) ∧
          (w.pbc.health[b].state ≠ .offline → n ≥ 3 → (∀ g ∈ u.pal.grants, g.bay = b → g.state = .orphaned) ∧
            (u.dpc.bays[b].state = .empty ∨ u.dpc.bays[b].state = .standing ∨
              (u.dpc.bays[b].state = .held ∧ hasHold u.dpc.bays[b].holds .pedestal = true)) ∧
            (w.dpc.bays[b].state = .cleared → w.scs.reports[b].plugged = false → u.dpc.bays[b].state = .held)) ∧
          (∀ a : Bay, a ≠ b → u.pbc.health[a] = w.pbc.health[a]) ∧ u.clu.mode = w.clu.mode ∧ LinkKept w u ∧
          u.dpc.lanes = w.dpc.lanes ∧ ChangesOnly [.clu, .pbc, .scs, .clr, .hpl, .pal, .lce, .frs, .dpc] w u)

/-- R67 to R70: RELAY SEND, the polls, the time limit and RELAY FETCH move a relay through its slot. A delivered outcome is
taken, and what it asks for has the slot, before a waiting requester hears that the slot is free (log 12); a reply length
above 64 ends the relay whatever state the poll shows (log 37). A limit that is not running changes nothing (log 4). R166, R168:
a new coach frees the chain, which raises FAULTS_CHANGED also where there was nothing to free. -/
def Obligations.RelaysRunThroughTheirSlot : Prop :=
  ∀ (b : Bay) (s : State), let w := wake s
    let slot := w.clr.slots[b]
    let now := w.clk.now
    let clear : Bool → Slot := fun onBus =>
      { slot with
        state := .fetching, clearing := true, pollDue := none, pollDiscard := if onBus then true else slot.pollDiscard }
    let waits : Request → State → Prop := fun r u =>
      r ∈ (if slot.busClass = some .two then u.pbc.class2 else u.pbc.class3)
    let ours : Trans → Prop := fun t => t.who = .relay b ∧ t.bay = some b
    let kept : State → Prop := fun u => u.scs.reports = w.scs.reports ∧ u.clu.mode = w.clu.mode ∧ LinkKept w u ∧
      u.dpc.lanes = w.dpc.lanes ∧ ChangesOnly [.clk, .clu, .pbc, .clr, .hpl, .pal, .lce, .frs, .dpc] w u
    (∀ t ∈ w.pbc.current, ours t → t.retry = false → slot.abandoned = false →
      (slot.state = .sending → ∀ m : List Byte, t.order = .relaySend m →
        (slot.cancelled = false → ∃ u, exec (.relaySendOutcome [.done []]) s = .next (finish u) ∧ u.clk = w.clk ∧
          u.clr.slots[b] = { slot with state := .awaiting, sendAck := some now, pollDue := some (now + 50) } ∧
          u.pbc.health[b] = ⟨.online, 0⟩ ∧ kept u) ∧
        (slot.cancelled = false → slot.requester = some .clr →
          ∃ u, exec (.relaySendOutcome [.nakData]) s = .next (finish u) ∧ u.clk = w.clk ∧
            u.clr.idents[b] = ⟨none, 0, .failed⟩ ∧ u.pbc.health[b] = ⟨.online, 0⟩ ∧
            (slot.waiting = ⟨false, false, false⟩ → u.clr.slots[b].state = .idle) ∧ kept u)) ∧
      (slot.state = .awaiting → ∀ h : Bool, t.order = .statusRead h → ∀ f rs rl ch cl th tl : Byte,
        ∃ u, exec (.pollOutcome [.done (checked [f, rs, rl, ch, cl, th, tl])]) s = .next (finish u) ∧ u.clk = w.clk ∧
          u.pbc.health[b] = ⟨.online, 0⟩ ∧ kept u ∧
          (rs = 1 → rl.toNat ≤ 64 → u.clr.slots[b] = { slot with pollDue := some (now + 50) }) ∧
          (rs = 2 → rl.toNat ≤ 64 → u.clr.slots[b] = { slot with state := .fetching, pollDue := none } ∧
            waits ⟨.relay b, b, .relayFetch rl.toNat, now⟩ u) ∧
          (rs = 3 → rl.toNat ≤ 64 →
            u.clr.slots[b] = { slot with state := .fetching, clearing := true, pollDue := none } ∧
            waits ⟨.relay b, b, .relayFetch 0, now⟩ u) ∧
          (rs = 0 ∨ 3 < rs.toNat ∨ 64 < rl.toNat → slot.requester = some .clr → slot.cancelled = false →
            u.clr.idents[b] = ⟨none, 0, .failed⟩)) ∧
      (slot.state = .fetching → slot.cancelled = false →
        (t.order = .relayFetch 0 → slot.clearing = true → slot.requester = some .clr →
          ∃ u, exec (.relayFetchOutcome [.done []]) s = .next (finish u) ∧ u.clk = w.clk ∧
            u.clr.idents[b] = ⟨none, 0, .failed⟩ ∧ kept u) ∧
        (slot.clearing = false → slot.requester = some .clr → slot.message = some .ident → ∀ c : Byte, 1 ≤ c.toNat →
          c.toNat ≤ 8 → ∀ name : Vector Byte 6, t.order = .relayFetch 8 → (∀ x ∈ name.toList, isChar x = true) →
          ∃ u, exec (.relayFetchOutcome [.done (0 :: c :: name.toList)]) s = .next (finish u) ∧ u.clk = w.clk ∧
            u.clr.idents[b] = ⟨some name.toList, c.toNat, .done⟩ ∧ u.frs.bays[b].readState = .reading ∧
            u.frs.bays[b].page = 0 ∧ u.clr.slots[b].message = some (.readFaults 0) ∧
            (w.clr.idents[b].fleet ≠ some name.toList → (hasKind w.clu.mask .faultsChanged = true →
                hasKind u.clu.pending[b] .faultsChanged = true) ∧ u.frs.bays[b].chain = [] ∧ u.lce.results[b] = none ∧
              u.lce.waivers[b] = false ∧ u.dpc.bays[b].heatWaiver = false) ∧
            (w.clr.idents[b].fleet = some name.toList → u.frs.bays[b].chain = w.frs.bays[b].chain ∧
              u.lce.results[b] = w.lce.results[b] ∧ u.lce.waivers[b] = w.lce.waivers[b] ∧
              u.dpc.bays[b].heatWaiver = w.dpc.bays[b].heatWaiver) ∧ kept u) ∧
        (slot.clearing = false → slot.requester = some .frs → w.frs.bays[b].readState = .reading → ∀ page : Nat,
          slot.message = some (.readFaults page) → t.order = .relayFetch 3 →
          (∃ u, exec (.relayFetchOutcome [.done [0, 0, 0]]) s = .next (finish u) ∧ u.clk = w.clk ∧
            u.frs.bays[b].chain = w.frs.bays[b].chain.filter (fun r =>
              r.origin != .coach || w.frs.bays[b].reported.contains r.code) ∧
            u.frs.bays[b].complete = true ∧ u.frs.bays[b].stale = false ∧ u.frs.bays[b].readState = .idle ∧
            u.frs.bays[b].lastRead = some w.clk.tod ∧ u.frs.bays[b].endOfRead = some w.clk.ticks ∧ kept u) ∧
          (w.frs.bays[b].page < 15 → ∃ u, exec (.relayFetchOutcome [.done [0, 1, 0]]) s = .next (finish u) ∧
            u.clk = w.clk ∧ u.frs.bays[b] = { w.frs.bays[b] with page := w.frs.bays[b].page + 1 } ∧
            u.clr.slots[b].message = some (.readFaults (w.frs.bays[b].page + 1)) ∧ kept u)))) ∧
    (slot.state = .awaiting → w.pbc.health[b].state ≠ .offline →
      (∀ due ∈ slot.pollDue, ∃ u, exec (.pollDue b) s = .next (finish u) ∧ u.clk = { w.clk with now := max now due } ∧
        u.clr = { w.clr with slots := w.clr.slots.set b { slot with pollDue := none } } ∧
        waits ⟨.relay b, b, .statusRead true, max now due⟩ u ∧ ChangesOnly [.clk, .pbc, .clr] w u) ∧
      (slot.pollDue = none → exec (.pollDue b) s = .next (finish w)) ∧
      ∀ ack ∈ slot.sendAck, ∃ u, exec (.relayTimeLimit b) s = .next (finish u) ∧
        u.clk = { w.clk with now := max now (ack + 800) } ∧
        (isOnBus (.relay b) w = false → waits ⟨.relay b, b, .relayFetch 0, max now (ack + 800)⟩ u ∧
          u.clr = { w.clr with slots := w.clr.slots.set b (clear false) }) ∧
        (isOnBus (.relay b) w = true → u.clr = { w.clr with slots := w.clr.slots.set b (clear true) }) ∧
        ChangesOnly [.clk, .pbc, .clr] w u)

/-- R136 to R140, R144: the settle times and the blocks of a lamp check. A bay is in the queue or in a context, never in both
(LampLaw), so its pause ends with its check. -/
def Obligations.LampStepsAreMeasured : Prop :=
  ∀ (c : CtxId) (s : State), let w := wake s
    (w.lce.ctxs[c] = none → exec (.settleTimeExpiry c) s = .next (finish w)) ∧
    ∀ x ∈ w.lce.ctxs[c], let b := x.bay
      let free : Prop := w.clr.slots[b].state = .idle ∧ w.clr.slots[b].abandoned = false
      let put : Ctx → Lce := fun y => { w.lce with ctxs := w.lce.ctxs.set c (some y) }
      let kept : State → Prop := fun u => u.scs.reports = w.scs.reports ∧ u.lce.waivers = w.lce.waivers ∧
        u.lce.plans = w.lce.plans ∧ u.clu.mode = w.clu.mode ∧ LinkKept w u ∧ u.dpc.lanes = w.dpc.lanes ∧
        ChangesOnly [.clk, .clu, .pbc, .clr, .hpl, .pal, .lce, .frs, .dpc] w u
      (x.settleDue = none → exec (.settleTimeExpiry c) s = .next (finish w)) ∧
      (∀ due ∈ x.settleDue, let later := { w.clk with now := max w.clk.now due }
        (x.stage ≠ .clearing → w.pbc.health[b].state ≠ .offline → 2 ≤ x.block → x.block ≤ 16 →
          exec (.settleTimeExpiry c) s = .next (finish { w with
            clk := later
            pbc := { w.pbc with class2 := w.pbc.class2 ++ [⟨.lamp c, b, .sampleBlock x.block, later.now⟩] }
            lce := put { x with stage := .sampling, settleDue := none, request := .sample } })) ∧
        (x.stage = .clearing → w.pbc.health[b].state ≠ .offline → free → ∀ p ∈ x.plan[x.stepIndex]?,
          1 ≤ p.group → p.group ≤ 63 →
          ∃ u, exec (.settleTimeExpiry c) s = .next (finish u) ∧ u.clk = later ∧
            u.lce = put { x with
              phase := .step, stage := .command, stepIndex := x.stepIndex + 1, retryUsed := false, request := .relay
              awaitsSlot := false, settleDue := none } ∧
            u.clr.slots[b].state = .sending ∧ u.clr.slots[b].requester = some .lce ∧
            u.clr.slots[b].message = some (.light p.group) ∧ ChangesOnly [.clk, .pbc, .clr, .lce] w u) ∧
        (x.stage = .clearing → x.plan.length ≤ x.stepIndex →
          ∃ u, exec (.settleTimeExpiry c) s = .next (finish u) ∧ u.clk = later ∧
            u.lce.results[b] = some ⟨w.clk.tod, w.clk.ticks,
              if ∃ e ∈ x.entries, e.critical = true ∧ e.outcome ≠ .pass then .fail else .pass, none, x.cls, x.baseline,
              x.entries⟩ ∧
            (LampLaw w → u.pal.bays[b].pause = false) ∧ (x.entries.all (·.outcome == .pass) = true →
              u.frs.bays[b].chain = w.frs.bays[b].chain.filter (·.origin != .lamp)) ∧
            (∀ a : Bay, a ≠ b → u.lce.results[a] = w.lce.results[a]) ∧
            (hasKind w.clu.mask .lampDone = true → hasKind u.clu.pending[b] .lampDone = true) ∧ kept u)) ∧
      ∀ t ∈ w.pbc.current, t.who = .lamp c → t.bay = some b → t.retry = false → t.discard = false →
        x.request = .sample → x.phase ≠ .ending → w.pbc.health[b] = ⟨.online, 0⟩ →
        (∀ samples : List Nat, t.order = .sampleBlock samples.length → samples ≠ [] → (∀ n ∈ samples, n ≤ 4095) →
          let mean := (samples.sum + samples.length / 2) / samples.length
          ∃ u, exec (.sampleBlockOutcome [.done (checked (samples.flatMap u16))]) s = .next (finish u) ∧ u.clk = w.clk ∧
            u.pbc.health[b] = ⟨.online, 0⟩ ∧ kept u ∧
            (x.phase = .baseline → (∀ n ∈ samples, n ≠ 4095) → free → ∀ p ∈ x.plan[0]?, 1 ≤ p.group → p.group ≤ 63 →
              u.lce.ctxs[c] = some { x with
                phase := .step, stage := .command, stepIndex := 1, retryUsed := false, baseline := some (.value mean)
                request := .relay, awaitsSlot := false } ∧
              u.clr.slots[b].message = some (.light p.group)) ∧
            (x.phase = .baseline → (∃ n ∈ samples, n = 4095) → u.lce.results[b] = some ⟨w.clk.tod, w.clk.ticks,
              if ∃ p ∈ x.plan, p.critical = true then .fail else .pass, none, x.cls, some .saturated,
              x.plan.map fun p => ⟨p.group, p.critical, .overrange, 0⟩⟩) ∧
            (x.phase = .step → free → 1 ≤ x.stepIndex → ∀ n : Nat, x.baseline = some (.value n) →
              ∀ p ∈ x.plan[x.stepIndex - 1]?, let delta := mean - n
              let outcome : StepOutcome :=
                if ∃ n ∈ samples, n = 4095 then .overrange else if delta < p.min / 4 then .opened
                else if delta < p.min then .degraded else if delta ≤ p.max then .pass else .overload
              u.lce.ctxs[c] = some { x with
                stage := .clearing, request := .relay, awaitsSlot := false
                entries := x.entries.take (x.stepIndex - 1) ++ [⟨p.group, p.critical, outcome, delta⟩] } ∧
              u.clr.slots[b].message = some .allOff)) ∧
        ∀ n : Nat, t.order = .sampleBlock n → w.scs.reports[b].plugged = true →
          ∃ u, exec (.sampleBlockOutcome [.nakData]) s = .next (finish u) ∧ u.clk = w.clk ∧
            (x.retryUsed = true → u.lce.results[b] = some ⟨w.clk.tod, w.clk.ticks, .linkFail, none, x.cls, x.baseline,
              x.entries.take (x.stepIndex - 1)⟩ ∧ (LampLaw w → u.pal.bays[b].pause = false)) ∧
            (x.retryUsed = false → free →
              (x.phase = .step → ∀ p ∈ x.plan[x.stepIndex - 1]?, 1 ≤ p.group ∧ p.group ≤ 63) →
              u.lce.ctxs[c] = some { x with
                stage := .command, retryUsed := true, request := .relay, awaitsSlot := false
                entries := x.entries.take (x.stepIndex - 1) } ∧ u.lce.results[b] = w.lce.results[b]) ∧ kept u

/-- R41, R42, R113 to R115, R185, R191: how an output write ends, and the head of the closing queue. A command for a
transaction that is not on the bus, and a stagger that has not run out, change nothing (logs 5, 7). -/
def Obligations.OutputWritesAreReported : Prop :=
  (∀ s : State, let w := wake s
    (∀ t ∈ w.pbc.current, (match t.who with | .output _ => false | _ => true) = true) →
      ∀ as : List Attempt, exec (.setOutputsOutcome as) s = .next (finish w)) ∧
  (∀ s : State, let w := wake s
    ∀ t ∈ w.pbc.current, ∀ b ∈ t.bay, ∀ m : Marks, t.who = .output m → ∀ img : Image, t.order = .setOutputs img →
      w.pbc.health[b] = ⟨.online, 0⟩ →
      (∃ u, exec (.setOutputsOutcome [.done []]) s = .next (finish u) ∧
        u.pbc.lastAck[b] = some w.clk.ticks ∧ u.pbc.broadcastSince[b] = false ∧
        (m.contactor = false → u.pal = w.pal) ∧ (m.aspect = false → m.supply = false → u.dpc = w.dpc) ∧
        (m.contactor = true → OneGrantLaw w → ∀ g ∈ grantOf b w,
          (g.state = .pendingClose → g.issued = true → img.closed = true →
            grantOf b u = some { g with
              state := .confirming, changeTod := w.clk.tod, issued := false, closeAck := some w.clk.ticks } ∧
            u.pal.lastCloseAck = some w.clk.ticks ∧ u.pal.closing = w.pal.closing.filter (· != b) ∧
            (w.params.stagger ≠ 0 → u.pal.outstanding = none)) ∧
          (g.state = .releasing → img.closed = false →
            grantOf b u = some { g with openOutcome := .acknowledged, openAck := some w.clk.ticks })) ∧
        (m.aspect = true ∨ m.supply = true → u.dpc = { w.dpc with bays := w.dpc.bays.set b { w.dpc.bays[b] with
          rewrite := false
          check := if img.aspect = .green ∧ w.dpc.bays[b].state = .cleared then some 0 else w.dpc.bays[b].check } }) ∧
        ChangesOnly [.pbc, .pal, .dpc] w u) ∧
      ∃ u, exec (.setOutputsOutcome [.nakOrder]) s = .next (finish u) ∧
        (m.contactor = false → u.pal = w.pal) ∧
        (m.contactor = true → OneGrantLaw w → ∀ g ∈ grantOf b w,
          (g.state = .pendingClose → g.issued = true → w.pal.outstanding = some b → u.pal.closing = [] ∨ b ∉ u.pal.closing) ∧
          (g.state = .pendingClose → g.issued = true →
            grantOf b u = some (g.toReleasing w.clk.tod) ∧ u.pbc.images[b].closed = false ∧
            u.pal.bays = w.pal.bays) ∧
          (g.state = .releasing → img.closed = false → grantOf b u = some { g with openOutcome := .failed })) ∧
        (m.aspect = true ∨ m.supply = true → img.aspect = .green → w.dpc.bays[b].state = .cleared →
          u.dpc.bays[b].state = .held ∧ hasHold u.dpc.bays[b].holds .signal = true ∧
          u.dpc.bays[b].ret = some .cleared ∧ u.pbc.images[b].aspect = .red) ∧
        (m.aspect = true ∨ m.supply = true → ¬(img.aspect = .green ∧ w.dpc.bays[b].state = .cleared) →
          u.dpc = { w.dpc with bays := w.dpc.bays.set b { w.dpc.bays[b] with rewrite := true } } ∧
          (w.dpc.bays[b].rewrite = false → ∃ e ∈ u.pbc.outQ, e.bay = b ∧ e.marks.aspect = true ∧ e.marks.supply = true)) ∧
        ChangesOnly [.clu, .pbc, .pal, .dpc] w u) ∧
  ∀ s : State, let w := wake s
    let ready : Prop := ∀ t ∈ w.pal.lastCloseAck, w.clk.ticks - t ≥ w.params.stagger
    (w.pal.outstanding ≠ none ∨ ¬ready ∨ w.pal.closing = [] →
      exec .closingStaggerExpiry s = .next (finish w)) ∧
    ∀ b bs, w.pal.closing = b :: bs → w.pal.outstanding = none → ready → w.pbc.health[b].state ≠ .offline →
      ∃ u, exec .closingStaggerExpiry s = .next (finish u) ∧
        u.pal = { w.pal with
          outstanding := some b
          grants := w.pal.grants.map fun g => if g.bay = b then { g with issued := true } else g } ∧
        u.pbc.images[b].closed = true ∧ (∃ e ∈ u.pbc.outQ, e.bay = b ∧ e.marks.contactor = true) ∧
        (∀ a : Bay, a ≠ b → u.pbc.images[a] = w.pbc.images[a]) ∧ ChangesOnly [.pbc, .pal] w u

/-- R24, R31, R33 to R37, R43: a WAIT that lasts too long, the broadcast's end, and the stuck line. A command for a transaction
that is not on the bus, a recheck of a line that is not STUCK and a limit that has not run out change nothing (logs 4, 5, 7);
the 2 s of a stuck line are two second ticks (log 22). -/
def Obligations.BusLineFailuresAreHandled : Prop :=
  ∀ s : State, let w := wake s
    let broadcastOnBus : Prop := ∃ t ∈ w.pbc.current, t.who = .broadcast
    (broadcastOnBus → exec .allSafeEnd s = .next (finish { w with pbc := { w.pbc with
      current := none, broadcastSince := Vector.replicate 32 true } })) ∧
    (¬broadcastOnBus → exec .allSafeEnd s = .next (finish w)) ∧
    (w.pbc.current = none ∨ broadcastOnBus → exec .waitLimitExpiry s = .next (finish w)) ∧
    (∀ t ∈ w.pbc.current, t.who ≠ .broadcast → ∀ b ∈ t.bay, t.retry = false → w.pbc.health[b] = ⟨.online, 0⟩ →
      ∃ u, exec .waitLimitExpiry s = .next (finish u) ∧ u.pbc.health[b] = ⟨.suspect, 1⟩ ∧
        u.pbc.current = some { t with retry := true, acked := true } ∧
        (∀ a : Bay, a ≠ b → u.pbc.health[a] = w.pbc.health[a]) ∧
        (hasKind w.clu.mask .pedestal = true → hasKind u.clu.pending[b] .pedestal = true) ∧
        u.scs.reports = w.scs.reports ∧ u.clu.mode = w.clu.mode ∧ LinkKept w u ∧ u.dpc.lanes = w.dpc.lanes ∧
        ChangesOnly [.clu, .pbc, .clr, .hpl, .pal, .lce, .frs, .dpc] w u) ∧
    (w.pbc.line = .normal → ∀ high : Bool, exec (.stuckRecheck high) s = .next (finish w)) ∧
    (∀ (high : Bool) (since next : Nat) (taken : Bool), w.pbc.line = .stuck since next taken →
      exec (.stuckRecheck high) s = .next (finish { w with
        clk := { w.clk with now := max w.clk.now next }
        pbc := { w.pbc with line := if high = true then .normal else .stuck since (next + 100) taken } })) ∧
    (w.pbc.line = .normal → exec .stuckLineLimit s = .next (finish w)) ∧
    (∀ (since next : Nat) (taken : Bool), w.pbc.line = .stuck since next taken →
      taken = true ∨ w.clk.ticks - since < 2 → exec .stuckLineLimit s = .next (finish w)) ∧
    ∀ since next : Nat, w.pbc.line = .stuck since next false → 2 ≤ w.clk.ticks - since →
      ∃ u, exec .stuckLineLimit s = .next (finish u) ∧ u.clk = w.clk ∧
        u.pbc.line = .stuck since next true ∧ (∀ b : Bay, u.pbc.health[b] = ⟨.offline, 3⟩) ∧
        (∀ b : Bay, w.pbc.health[b].state ≠ .offline →
          (∀ r ∈ u.pbc.class2 ++ u.pbc.class3, r.bay ≠ b) ∧ (∀ e ∈ u.pbc.outQ, e.bay ≠ b) ∧
          (∀ g ∈ u.pal.grants, g.bay = b → g.state = .orphaned) ∧
          (w.dpc.bays[b].state ≠ .empty → w.dpc.bays[b].state ≠ .standing →
            u.dpc.bays[b].state = .held ∧ hasHold u.dpc.bays[b].holds .pedestal = true) ∧
          (hasKind w.clu.mask .pedestal = true → hasKind u.clu.pending[b] .pedestal = true)) ∧
        u.pbc.current.map (·.who) = w.pbc.current.map (·.who) ∧ u.scs = w.scs ∧ u.clu.mode = w.clu.mode ∧ LinkKept w u ∧
        u.dpc.lanes = w.dpc.lanes ∧ ChangesOnly [.clu, .pbc, .clr, .hpl, .pal, .lce, .frs, .dpc] w u

/-! ### Limits and plans -/

/-- R106, R116, R118, R121, R124, R188: the limits of the grants and of an overdue bay; one that has not run out changes
nothing (log 5). R111, R112: the bay whose re-grant wait ends is admitted when it fits and no other waits. -/
def Obligations.LimitsOfABayRunOut : Prop :=
  ∀ (b : Bay) (s : State), let w := wake s
    let p := w.pal.bays[b]
    let passed : Option Nat → Nat → Prop := fun start n => ∃ t ∈ start, w.clk.ticks - t ≥ n
    let heatFault : Nat → State → Prop := fun code u =>
      (hasKind w.clu.mask .heatFault = true → hasKind u.clu.pending[b] .heatFault = true) ∧
      ((∃ r ∈ u.frs.bays[b].chain, r.code = code ∧ r.origin = .heater ∧ r.active = true ∧ r.last = w.minute) ∨
        u.frs.bays[b].causes.heater = true)
    let kept : State → Prop := fun u => u.clu.mode = w.clu.mode ∧ LinkKept w u ∧ u.dpc.lanes = w.dpc.lanes ∧
      ChangesOnly [.clu, .pbc, .hpl, .pal, .frs, .dpc] w u
    (¬passed p.regrant 60 → exec (.regrantWaitExpiry b) s = .next (finish w)) ∧
    (passed p.regrant 60 → RegrantLaw w → ∃ u, exec (.regrantWaitExpiry b) s = .next (finish u) ∧
      u.pal.bays[b] = { p with regrant := none } ∧
      (BudgetLaw w → ClosingLaw w → (∀ a : Bay, a ≠ b → candidate a w = false) →
        candidate b { w with pal := { w.pal with bays := w.pal.bays.set b { p with regrant := none } } } = true →
        committedLoad w + candidatePower b w ≤ w.pal.budget →
        grantOf b u = some { admitted b w with issued := decide (w.pal.closing = [] ∧ w.pal.outstanding = none ∧
          ∀ t ∈ w.pal.lastCloseAck, w.clk.ticks - t ≥ w.params.stagger) } ∧
        u.pal.closing = w.pal.closing ++ [b] ∧
        u.pal.urgentPtr = (if level b w = .urgent then b + 1 else w.pal.urgentPtr) ∧
        u.pal.normalPtr = (if level b w = .urgent then w.pal.normalPtr else b + 1)) ∧
      (∀ g ∈ w.pal.grants, BudgetLaw w → g.state.live = true → grantLevel g w ≠ .normal →
        ∃ g' ∈ u.pal.grants, g'.bay = g.bay ∧ g'.power = g.power) ∧
      u.pal.budget = w.pal.budget ∧ ChangesOnly [.pbc, .pal] w u) ∧
    ((∀ g ∈ grantOf b w, g.state ≠ .confirming ∨ ¬passed g.closeAck 10) →
      exec (.noLoadLimit b) s = .next (finish w)) ∧
    (OneGrantLaw w → ClosingLaw w → ∀ g ∈ grantOf b w, g.state = .confirming → passed g.closeAck 10 →
      ∃ u, exec (.noLoadLimit b) s = .next (finish u) ∧ u.pal.bays[b].faultBlock = true ∧
        grantOf b u = some (g.toReleasing w.clk.tod) ∧ u.pbc.images[b].closed = false ∧ heatFault 0xF201 u ∧ kept u) ∧
    ((∀ g ∈ grantOf b w, g.state ≠ .releasing ∨ g.stuckRecorded = true ∨ ¬passed g.openAck 10) →
      exec (.contactorStuckLimit b) s = .next (finish w)) ∧
    (OneGrantLaw w → ClosingLaw w → ∀ g ∈ grantOf b w, g.state = .releasing → g.stuckRecorded = false →
      passed g.openAck 10 →
      ∃ u, exec (.contactorStuckLimit b) s = .next (finish u) ∧ u.pal.bays[b].faultBlock = p.faultBlock ∧
        grantOf b u = some { g with stuckRecorded := true } ∧ heatFault 0xF203 u ∧ kept u) ∧
    ((∀ g ∈ grantOf b w, g.state ≠ .orphaned ∨ ¬passed g.orphanedAt 3) →
      exec (.orphanDelayExpiry b) s = .next (finish w)) ∧
    (∀ g ∈ grantOf b w, g.state = .orphaned → passed g.orphanedAt 3 →
      ∃ u, exec (.orphanDelayExpiry b) s = .next (finish u) ∧ grantOf b u = none ∧ b ∉ u.pal.closing ∧
        u.pal.bays[b] = { p with lastRelease := some w.clk.tod, regrant := some w.clk.ticks } ∧
        u.pal.budget = w.pal.budget ∧ ChangesOnly [.pbc, .pal] w u) ∧
    ((∀ t ∈ w.dpc.bays[b].overdue, w.clk.ticks < t) → exec (.overdueExpiry b) s = .next (finish w)) ∧
    ∀ t ∈ w.dpc.bays[b].overdue, w.clk.ticks ≥ t →
      ∃ u, exec (.overdueExpiry b) s = .next (finish u) ∧
        u.dpc = { w.dpc with bays := w.dpc.bays.set b { w.dpc.bays[b] with
          overdue := some (t + 120), overdueCount := min 255 (w.dpc.bays[b].overdueCount + 1) } } ∧
        (hasKind w.clu.mask .overdue = true → hasKind u.clu.pending[b] .overdue = true ∧ u.clu.sendMark[b] = true) ∧
        u.clu.mode = w.clu.mode ∧ LinkKept w u ∧ ChangesOnly [.clu, .dpc] w u

/-- R91 to R98: what a plan writes. A bay without a class, a current entry or a plug, or that is neither STANDING nor READY,
has no plan; for the others the need is the least number of minutes that makes the rise good at the derated rate. -/
def Obligations.PlansFollowTheArithmetic : Prop :=
  ∀ (b : Bay) (s : State), let plan := computePlan b s
    plan.minute = some s.minute ∧
    (effRec b s = none ∨ curEntry b s = none ∨ s.scs.reports[b].plugged = false ∨
      (s.dpc.bays[b].state ≠ .standing ∧ s.dpc.bays[b].state ≠ .ready) → plan = noPlan s.minute) ∧
    ∀ r ∈ effRec b s, ∀ e ∈ curEntry b s, s.scs.reports[b].plugged = true →
      s.dpc.bays[b].state = .standing ∨ s.dpc.bays[b].state = .ready →
      let target := e.target.getD r.target
      let cabin := s.scs.reports[b].cabin.getD (outdoor s)
      let rise := (target : Int) - cabin
      let derate := min 900 (r.loss * (max 0 (-outdoor s)).toNat / 10)
      let rate := max 1 (r.rate * (1000 - derate) / 1000)
      plan.target = some target ∧ plan.cabin = some cabin ∧ plan.ttd = some (timeToGo e s) ∧
      plan.derating = some derate ∧ plan.rate = some rate ∧ plan.slack = timeToGo e s - plan.need ∧
      (rise ≤ 0 → plan.need = 0 ∧ plan.energy = 0 ∧ plan.long = false ∧ plan.level = .none ∧ plan.reached = true) ∧
      (0 < rise →
        (plan.long = false → 1 ≤ plan.need ∧ plan.need ≤ 480 ∧ rise * 10 ≤ plan.need * rate ∧
          ((plan.need : Int) - 1) * rate < rise * 10) ∧
        (plan.long = true → plan.need = 480 ∧ 480 * (rate : Int) < rise * 10) ∧
        plan.need * r.power ≤ plan.energy * 60 ∧ plan.energy * 60 < plan.need * r.power + 60 ∧
        (plan.reached = true ↔ s.hpl.plans[b].reached = true ∧ cabin ≥ (target : Int) - s.params.keepBand) ∧
        (plan.reached = true → plan.level = .none) ∧
        (plan.reached = false →
          (plan.slack ≤ 0 → plan.level = .urgent) ∧ (plan.slack > s.params.margin → plan.level = .wait) ∧
          (0 < plan.slack → plan.slack ≤ s.params.margin →
            plan.level = if e.priority = true then .urgent else .normal)))
end

