-- ==== Sys2Proof/Laws/State.lean ====
section
/-! SUPPORT. The small lemmas of State: per-bay tables, one field of a conditional state, the per-bay updates field by field,
and folds that keep something. -/

namespace Sys2Proof.Machine

/-! ### Per-bay tables -/

/-- One item of a rewritten table. -/
theorem upd_get {α : Type} (v : PerBay α) (b a : Bay) (f : α → α) :
    (upd v b f)[a] = if a = b then f v[b] else v[a] := by
  simp only [upd, Fin.getElem_fin, Vector.getElem_set, Fin.ext_iff, eq_comm]

/-- `simp` writes the index of a bay as a number. -/
@[simp] theorem upd_self {α : Type} (v : PerBay α) (b : Bay) (f : α → α) :
    (upd v b f)[(b : Nat)] = f v[(b : Nat)] := by
  simp [upd]

@[simp] theorem upd_other {α : Type} (v : PerBay α) (b a : Bay) (f : α → α) (h : a ≠ b) :
    (upd v b f)[(a : Nat)] = v[(a : Nat)] := by
  simpa [h] using upd_get v b a f

/-- A part of the items that the rewrite keeps is kept in the whole table. -/
theorem upd_map {α β : Type} (v : PerBay α) (b : Bay) (f : α → α) (g : α → β) (h : ∀ x, g (f x) = g x) :
    (upd v b f).map g = v.map g := by
  refine Vector.ext fun i hi => ?_
  by_cases e : b.val = i
  · subst e; simp [upd, h]
  · simp [upd, e]

/-! ### Folds -/

/-- A fold keeps what each of its steps keeps. -/
theorem foldl_keep {α β γ : Type} (g : α → γ) (f : α → β → α) (h : ∀ s b, g (f s b) = g s) (l : List β) (s : α) :
    g (l.foldl f s) = g s := by
  induction l generalizing s with
  | nil => rfl
  | cons b l ih => rw [List.foldl_cons, ih, h]

/-- What every bay's turn keeps, the whole round keeps. -/
theorem forBays_keep {γ : Type} (g : State → γ) (f : Bay → State → State) (h : ∀ b s, g (f b s) = g s) (s : State) :
    g (forBays f s) = g s :=
  foldl_keep g _ (fun s b => h b s) _ s

/-- What both the found and the other state keep, is kept. -/
theorem getD_keep {γ : Type} (g : State → γ) (o : Option State) (s t : State) (h : ∀ u, o = some u → g u = g t)
    (h' : g s = g t) : g (o.getD s) = g t := by
  cases o with
  | none => exact h'
  | some u => exact h u rfl

/-! ### One field of a conditional state, and what a fold keeps, field by field -/

@[simp] theorem ite_clk (c : Prop) [Decidable c] (s t : State) :
    (if c then s else t).clk = if c then s.clk else t.clk := apply_ite _ _ _ _
@[simp] theorem ite_clu (c : Prop) [Decidable c] (s t : State) :
    (if c then s else t).clu = if c then s.clu else t.clu := apply_ite _ _ _ _
@[simp] theorem ite_params (c : Prop) [Decidable c] (s t : State) :
    (if c then s else t).params = if c then s.params else t.params := apply_ite _ _ _ _
@[simp] theorem ite_pbc (c : Prop) [Decidable c] (s t : State) :
    (if c then s else t).pbc = if c then s.pbc else t.pbc := apply_ite _ _ _ _
@[simp] theorem ite_scs (c : Prop) [Decidable c] (s t : State) :
    (if c then s else t).scs = if c then s.scs else t.scs := apply_ite _ _ _ _
@[simp] theorem ite_clr (c : Prop) [Decidable c] (s t : State) :
    (if c then s else t).clr = if c then s.clr else t.clr := apply_ite _ _ _ _
@[simp] theorem ite_hpl (c : Prop) [Decidable c] (s t : State) :
    (if c then s else t).hpl = if c then s.hpl else t.hpl := apply_ite _ _ _ _
@[simp] theorem ite_pal (c : Prop) [Decidable c] (s t : State) :
    (if c then s else t).pal = if c then s.pal else t.pal := apply_ite _ _ _ _
@[simp] theorem ite_lce (c : Prop) [Decidable c] (s t : State) :
    (if c then s else t).lce = if c then s.lce else t.lce := apply_ite _ _ _ _
@[simp] theorem ite_frs (c : Prop) [Decidable c] (s t : State) :
    (if c then s else t).frs = if c then s.frs else t.frs := apply_ite _ _ _ _
@[simp] theorem ite_dpc (c : Prop) [Decidable c] (s t : State) :
    (if c then s else t).dpc = if c then s.dpc else t.dpc := apply_ite _ _ _ _
@[simp] theorem ite_pending (c : Prop) [Decidable c] (s t : State) :
    (if c then s else t).pending = if c then s.pending else t.pending := apply_ite _ _ _ _
@[simp] theorem foldl_clk {β : Type} (f : State → β → State) (h : ∀ s b, (f s b).clk = s.clk) (l : List β) (s : State) :
    (l.foldl f s).clk = s.clk := foldl_keep State.clk f h l s
@[simp] theorem foldl_clu {β : Type} (f : State → β → State) (h : ∀ s b, (f s b).clu = s.clu) (l : List β) (s : State) :
    (l.foldl f s).clu = s.clu := foldl_keep State.clu f h l s
@[simp] theorem foldl_params {β : Type} (f : State → β → State) (h : ∀ s b, (f s b).params = s.params) (l : List β) (s : State) :
    (l.foldl f s).params = s.params := foldl_keep State.params f h l s
@[simp] theorem foldl_pbc {β : Type} (f : State → β → State) (h : ∀ s b, (f s b).pbc = s.pbc) (l : List β) (s : State) :
    (l.foldl f s).pbc = s.pbc := foldl_keep State.pbc f h l s
@[simp] theorem foldl_scs {β : Type} (f : State → β → State) (h : ∀ s b, (f s b).scs = s.scs) (l : List β) (s : State) :
    (l.foldl f s).scs = s.scs := foldl_keep State.scs f h l s
@[simp] theorem foldl_clr {β : Type} (f : State → β → State) (h : ∀ s b, (f s b).clr = s.clr) (l : List β) (s : State) :
    (l.foldl f s).clr = s.clr := foldl_keep State.clr f h l s
@[simp] theorem foldl_hpl {β : Type} (f : State → β → State) (h : ∀ s b, (f s b).hpl = s.hpl) (l : List β) (s : State) :
    (l.foldl f s).hpl = s.hpl := foldl_keep State.hpl f h l s
@[simp] theorem foldl_pal {β : Type} (f : State → β → State) (h : ∀ s b, (f s b).pal = s.pal) (l : List β) (s : State) :
    (l.foldl f s).pal = s.pal := foldl_keep State.pal f h l s
@[simp] theorem foldl_lce {β : Type} (f : State → β → State) (h : ∀ s b, (f s b).lce = s.lce) (l : List β) (s : State) :
    (l.foldl f s).lce = s.lce := foldl_keep State.lce f h l s
@[simp] theorem foldl_frs {β : Type} (f : State → β → State) (h : ∀ s b, (f s b).frs = s.frs) (l : List β) (s : State) :
    (l.foldl f s).frs = s.frs := foldl_keep State.frs f h l s
@[simp] theorem foldl_dpc {β : Type} (f : State → β → State) (h : ∀ s b, (f s b).dpc = s.dpc) (l : List β) (s : State) :
    (l.foldl f s).dpc = s.dpc := foldl_keep State.dpc f h l s
@[simp] theorem foldl_pending {β : Type} (f : State → β → State) (h : ∀ s b, (f s b).pending = s.pending) (l : List β) (s : State) :
    (l.foldl f s).pending = s.pending := foldl_keep State.pending f h l s
@[simp] theorem forBays_clk (f : Bay → State → State) (h : ∀ b s, (f b s).clk = s.clk) (s : State) :
    (forBays f s).clk = s.clk := forBays_keep State.clk f h s
@[simp] theorem forBays_clu (f : Bay → State → State) (h : ∀ b s, (f b s).clu = s.clu) (s : State) :
    (forBays f s).clu = s.clu := forBays_keep State.clu f h s
@[simp] theorem forBays_params (f : Bay → State → State) (h : ∀ b s, (f b s).params = s.params) (s : State) :
    (forBays f s).params = s.params := forBays_keep State.params f h s
@[simp] theorem forBays_pbc (f : Bay → State → State) (h : ∀ b s, (f b s).pbc = s.pbc) (s : State) :
    (forBays f s).pbc = s.pbc := forBays_keep State.pbc f h s
@[simp] theorem forBays_scs (f : Bay → State → State) (h : ∀ b s, (f b s).scs = s.scs) (s : State) :
    (forBays f s).scs = s.scs := forBays_keep State.scs f h s
@[simp] theorem forBays_clr (f : Bay → State → State) (h : ∀ b s, (f b s).clr = s.clr) (s : State) :
    (forBays f s).clr = s.clr := forBays_keep State.clr f h s
@[simp] theorem forBays_hpl (f : Bay → State → State) (h : ∀ b s, (f b s).hpl = s.hpl) (s : State) :
    (forBays f s).hpl = s.hpl := forBays_keep State.hpl f h s
@[simp] theorem forBays_pal (f : Bay → State → State) (h : ∀ b s, (f b s).pal = s.pal) (s : State) :
    (forBays f s).pal = s.pal := forBays_keep State.pal f h s
@[simp] theorem forBays_lce (f : Bay → State → State) (h : ∀ b s, (f b s).lce = s.lce) (s : State) :
    (forBays f s).lce = s.lce := forBays_keep State.lce f h s
@[simp] theorem forBays_frs (f : Bay → State → State) (h : ∀ b s, (f b s).frs = s.frs) (s : State) :
    (forBays f s).frs = s.frs := forBays_keep State.frs f h s
@[simp] theorem forBays_dpc (f : Bay → State → State) (h : ∀ b s, (f b s).dpc = s.dpc) (s : State) :
    (forBays f s).dpc = s.dpc := forBays_keep State.dpc f h s
@[simp] theorem forBays_pending (f : Bay → State → State) (h : ∀ b s, (f b s).pending = s.pending) (s : State) :
    (forBays f s).pending = s.pending := forBays_keep State.pending f h s

/-! ### The per-bay updates, field by field -/

@[simp] theorem updReport_reports (b : Bay) (f : Report → Report) (s : State) : (updReport b f s).scs.reports = upd s.scs.reports b f := rfl
@[simp] theorem updReport_setList (b : Bay) (f : Report → Report) (s : State) : (updReport b f s).scs.setList = s.scs.setList := rfl
@[simp] theorem updReport_roundList (b : Bay) (f : Report → Report) (s : State) : (updReport b f s).scs.roundList = s.scs.roundList := rfl
@[simp] theorem updReport_pos (b : Bay) (f : Report → Report) (s : State) : (updReport b f s).scs.pos = s.scs.pos := rfl
@[simp] theorem updReport_round (b : Bay) (f : Report → Report) (s : State) : (updReport b f s).scs.round = s.scs.round := rfl
@[simp] theorem updReport_roundStart (b : Bay) (f : Report → Report) (s : State) : (updReport b f s).scs.roundStart = s.scs.roundStart := rfl
@[simp] theorem updReport_roundTick (b : Bay) (f : Report → Report) (s : State) : (updReport b f s).scs.roundTick = s.scs.roundTick := rfl
@[simp] theorem updReport_slow (b : Bay) (f : Report → Report) (s : State) : (updReport b f s).scs.slow = s.scs.slow := rfl
@[simp] theorem updReport_lastDuration (b : Bay) (f : Report → Report) (s : State) : (updReport b f s).scs.lastDuration = s.scs.lastDuration := rfl
@[simp] theorem updSlot_slots (b : Bay) (f : Slot → Slot) (s : State) : (updSlot b f s).clr.slots = upd s.clr.slots b f := rfl
@[simp] theorem updSlot_idents (b : Bay) (f : Slot → Slot) (s : State) : (updSlot b f s).clr.idents = s.clr.idents := rfl
@[simp] theorem updIdent_idents (b : Bay) (f : Identity → Identity) (s : State) : (updIdent b f s).clr.idents = upd s.clr.idents b f := rfl
@[simp] theorem updIdent_slots (b : Bay) (f : Identity → Identity) (s : State) : (updIdent b f s).clr.slots = s.clr.slots := rfl
@[simp] theorem updPlan_plans (b : Bay) (p : Plan) (s : State) : (updPlan b p s).hpl.plans = upd s.hpl.plans b fun _ => p := rfl
@[simp] theorem updPlan_weather (b : Bay) (p : Plan) (s : State) : (updPlan b p s).hpl.weather = s.hpl.weather := rfl
@[simp] theorem updPalBay_bays (b : Bay) (f : PalBay → PalBay) (s : State) : (updPalBay b f s).pal.bays = upd s.pal.bays b f := rfl
@[simp] theorem updPalBay_schedule (b : Bay) (f : PalBay → PalBay) (s : State) : (updPalBay b f s).pal.schedule = s.pal.schedule := rfl
@[simp] theorem updPalBay_budget (b : Bay) (f : PalBay → PalBay) (s : State) : (updPalBay b f s).pal.budget = s.pal.budget := rfl
@[simp] theorem updPalBay_grants (b : Bay) (f : PalBay → PalBay) (s : State) : (updPalBay b f s).pal.grants = s.pal.grants := rfl
@[simp] theorem updPalBay_closing (b : Bay) (f : PalBay → PalBay) (s : State) : (updPalBay b f s).pal.closing = s.pal.closing := rfl
@[simp] theorem updPalBay_outstanding (b : Bay) (f : PalBay → PalBay) (s : State) : (updPalBay b f s).pal.outstanding = s.pal.outstanding := rfl
@[simp] theorem updPalBay_lastCloseAck (b : Bay) (f : PalBay → PalBay) (s : State) : (updPalBay b f s).pal.lastCloseAck = s.pal.lastCloseAck := rfl
@[simp] theorem updPalBay_urgentPtr (b : Bay) (f : PalBay → PalBay) (s : State) : (updPalBay b f s).pal.urgentPtr = s.pal.urgentPtr := rfl
@[simp] theorem updPalBay_normalPtr (b : Bay) (f : PalBay → PalBay) (s : State) : (updPalBay b f s).pal.normalPtr = s.pal.normalPtr := rfl
@[simp] theorem updPalBay_meterSum (b : Bay) (f : PalBay → PalBay) (s : State) : (updPalBay b f s).pal.meterSum = s.pal.meterSum := rfl
@[simp] theorem updPalBay_excess (b : Bay) (f : PalBay → PalBay) (s : State) : (updPalBay b f s).pal.excess = s.pal.excess := rfl
@[simp] theorem updPalBay_passDue (b : Bay) (f : PalBay → PalBay) (s : State) : (updPalBay b f s).pal.passDue = s.pal.passDue := rfl
@[simp] theorem updFault_bays (b : Bay) (f : FaultBay → FaultBay) (s : State) : (updFault b f s).frs.bays = upd s.frs.bays b f := rfl
@[simp] theorem updFault_free (b : Bay) (f : FaultBay → FaultBay) (s : State) : (updFault b f s).frs.free = s.frs.free := rfl
@[simp] theorem updFault_table (b : Bay) (f : FaultBay → FaultBay) (s : State) : (updFault b f s).frs.table = s.frs.table := rfl
@[simp] theorem updFault_staging (b : Bay) (f : FaultBay → FaultBay) (s : State) : (updFault b f s).frs.staging = s.frs.staging := rfl
@[simp] theorem updFault_stagingTotal (b : Bay) (f : FaultBay → FaultBay) (s : State) : (updFault b f s).frs.stagingTotal = s.frs.stagingTotal := rfl
@[simp] theorem updDpc_bays (b : Bay) (f : DpcBay → DpcBay) (s : State) : (updDpc b f s).dpc.bays = upd s.dpc.bays b f := rfl
@[simp] theorem updDpc_entries (b : Bay) (f : DpcBay → DpcBay) (s : State) : (updDpc b f s).dpc.entries = s.dpc.entries := rfl
@[simp] theorem updDpc_lanes (b : Bay) (f : DpcBay → DpcBay) (s : State) : (updDpc b f s).dpc.lanes = s.dpc.lanes := rfl
@[simp] theorem updDpc_latchReleased (b : Bay) (f : DpcBay → DpcBay) (s : State) : (updDpc b f s).dpc.latchReleased = s.dpc.latchReleased := rfl
@[simp] theorem updDpc_readingReleased (b : Bay) (f : DpcBay → DpcBay) (s : State) : (updDpc b f s).dpc.readingReleased = s.dpc.readingReleased := rfl
@[simp] theorem updDpc_pinHigh (b : Bay) (f : DpcBay → DpcBay) (s : State) : (updDpc b f s).dpc.pinHigh = s.dpc.pinHigh := rfl
@[simp] theorem updDpc_debounce (b : Bay) (f : DpcBay → DpcBay) (s : State) : (updDpc b f s).dpc.debounce = s.dpc.debounce := rfl
@[simp] theorem updCtx_ctxs (c : CtxId) (x : Option Ctx) (s : State) : (updCtx c x s).lce.ctxs = s.lce.ctxs.set c x := rfl
@[simp] theorem updCtx_plans (c : CtxId) (x : Option Ctx) (s : State) : (updCtx c x s).lce.plans = s.lce.plans := rfl
@[simp] theorem updCtx_queue (c : CtxId) (x : Option Ctx) (s : State) : (updCtx c x s).lce.queue = s.lce.queue := rfl
@[simp] theorem updCtx_results (c : CtxId) (x : Option Ctx) (s : State) : (updCtx c x s).lce.results = s.lce.results := rfl
@[simp] theorem updCtx_waivers (c : CtxId) (x : Option Ctx) (s : State) : (updCtx c x s).lce.waivers = s.lce.waivers := rfl
@[simp] theorem elapseTo_tod (due : Nat) (s : State) : (elapseTo due s).clk.tod = s.clk.tod := rfl
@[simp] theorem elapseTo_isSet (due : Nat) (s : State) : (elapseTo due s).clk.isSet = s.clk.isSet := rfl
@[simp] theorem elapseTo_ticks (due : Nat) (s : State) : (elapseTo due s).clk.ticks = s.clk.ticks := rfl
@[simp] theorem elapseTo_minuteTicks (due : Nat) (s : State) : (elapseTo due s).clk.minuteTicks = s.clk.minuteTicks := rfl
@[simp] theorem elapseTo_now (due : Nat) (s : State) : (elapseTo due s).clk.now = max s.clk.now due := rfl

end Sys2Proof.Machine
end

