-- ==== Sys2Proof/Laws/Power.lean ====
section
/-! SUPPORT. Which parts of the state an operation keeps, said once for each operation:
the shared operations, the bus, the power of the bays and the heat plans. -/

namespace Sys2Proof.Machine

/-! ### Time, notices and per-bay updates -/

@[simp] theorem elapseTo_frame (due : Nat) (s : State) :
    (elapseTo due s).clu = s.clu ∧ (elapseTo due s).params = s.params ∧ (elapseTo due s).pbc = s.pbc ∧
    (elapseTo due s).scs = s.scs ∧ (elapseTo due s).clr = s.clr ∧ (elapseTo due s).hpl = s.hpl ∧
    (elapseTo due s).pal = s.pal ∧ (elapseTo due s).lce = s.lce ∧ (elapseTo due s).frs = s.frs ∧
    (elapseTo due s).dpc = s.dpc ∧ (elapseTo due s).pending = s.pending := by
  simp [elapseTo]

@[simp] theorem idleMs_frame (s : State) :
    (idleMs s).clu = s.clu ∧ (idleMs s).params = s.params ∧ (idleMs s).pbc = s.pbc ∧ (idleMs s).scs = s.scs ∧
    (idleMs s).clr = s.clr ∧ (idleMs s).hpl = s.hpl ∧ (idleMs s).pal = s.pal ∧ (idleMs s).lce = s.lce ∧
    (idleMs s).frs = s.frs ∧ (idleMs s).dpc = s.dpc ∧ (idleMs s).pending = s.pending := by
  simp [idleMs]

@[simp] theorem raiseBay_frame (k : NoticeKind) (b : Bay) (s : State) :
    (raiseBay k b s).clk = s.clk ∧ (raiseBay k b s).params = s.params ∧ (raiseBay k b s).pbc = s.pbc ∧
    (raiseBay k b s).scs = s.scs ∧ (raiseBay k b s).clr = s.clr ∧ (raiseBay k b s).hpl = s.hpl ∧
    (raiseBay k b s).pal = s.pal ∧ (raiseBay k b s).lce = s.lce ∧ (raiseBay k b s).frs = s.frs ∧
    (raiseBay k b s).dpc = s.dpc ∧ (raiseBay k b s).pending = s.pending := by
  simp [raiseBay]

@[simp] theorem raiseDepot_frame (k : NoticeKind) (s : State) :
    (raiseDepot k s).clk = s.clk ∧ (raiseDepot k s).params = s.params ∧ (raiseDepot k s).pbc = s.pbc ∧
    (raiseDepot k s).scs = s.scs ∧ (raiseDepot k s).clr = s.clr ∧ (raiseDepot k s).hpl = s.hpl ∧
    (raiseDepot k s).pal = s.pal ∧ (raiseDepot k s).lce = s.lce ∧ (raiseDepot k s).frs = s.frs ∧
    (raiseDepot k s).dpc = s.dpc ∧ (raiseDepot k s).pending = s.pending := by
  simp [raiseDepot]

@[simp] theorem raiseEntry_frame (id : Nat) (s : State) :
    (raiseEntry id s).clk = s.clk ∧ (raiseEntry id s).params = s.params ∧ (raiseEntry id s).pbc = s.pbc ∧
    (raiseEntry id s).scs = s.scs ∧ (raiseEntry id s).clr = s.clr ∧ (raiseEntry id s).hpl = s.hpl ∧
    (raiseEntry id s).pal = s.pal ∧ (raiseEntry id s).lce = s.lce ∧ (raiseEntry id s).frs = s.frs ∧
    (raiseEntry id s).dpc = s.dpc ∧ (raiseEntry id s).pending = s.pending := by
  simp [raiseEntry]

@[simp] theorem forgetEntry_frame (id : Nat) (s : State) :
    (forgetEntry id s).clk = s.clk ∧ (forgetEntry id s).params = s.params ∧ (forgetEntry id s).pbc = s.pbc ∧
    (forgetEntry id s).scs = s.scs ∧ (forgetEntry id s).clr = s.clr ∧ (forgetEntry id s).hpl = s.hpl ∧
    (forgetEntry id s).pal = s.pal ∧ (forgetEntry id s).lce = s.lce ∧ (forgetEntry id s).frs = s.frs ∧
    (forgetEntry id s).dpc = s.dpc ∧ (forgetEntry id s).pending = s.pending := by
  simp [forgetEntry]

@[simp] theorem updReport_frame (b : Bay) (f : Report → Report) (s : State) :
    (updReport b f s).clk = s.clk ∧ (updReport b f s).clu = s.clu ∧ (updReport b f s).params = s.params ∧
    (updReport b f s).pbc = s.pbc ∧ (updReport b f s).clr = s.clr ∧ (updReport b f s).hpl = s.hpl ∧
    (updReport b f s).pal = s.pal ∧ (updReport b f s).lce = s.lce ∧ (updReport b f s).frs = s.frs ∧
    (updReport b f s).dpc = s.dpc ∧ (updReport b f s).pending = s.pending := by
  simp [updReport]

@[simp] theorem updSlot_frame (b : Bay) (f : Slot → Slot) (s : State) :
    (updSlot b f s).clk = s.clk ∧ (updSlot b f s).clu = s.clu ∧ (updSlot b f s).params = s.params ∧
    (updSlot b f s).pbc = s.pbc ∧ (updSlot b f s).scs = s.scs ∧ (updSlot b f s).hpl = s.hpl ∧
    (updSlot b f s).pal = s.pal ∧ (updSlot b f s).lce = s.lce ∧ (updSlot b f s).frs = s.frs ∧
    (updSlot b f s).dpc = s.dpc ∧ (updSlot b f s).pending = s.pending := by
  simp [updSlot]

@[simp] theorem updIdent_frame (b : Bay) (f : Identity → Identity) (s : State) :
    (updIdent b f s).clk = s.clk ∧ (updIdent b f s).clu = s.clu ∧ (updIdent b f s).params = s.params ∧
    (updIdent b f s).pbc = s.pbc ∧ (updIdent b f s).scs = s.scs ∧ (updIdent b f s).hpl = s.hpl ∧
    (updIdent b f s).pal = s.pal ∧ (updIdent b f s).lce = s.lce ∧ (updIdent b f s).frs = s.frs ∧
    (updIdent b f s).dpc = s.dpc ∧ (updIdent b f s).pending = s.pending := by
  simp [updIdent]

@[simp] theorem updPlan_frame (b : Bay) (p : Plan) (s : State) :
    (updPlan b p s).clk = s.clk ∧ (updPlan b p s).clu = s.clu ∧ (updPlan b p s).params = s.params ∧
    (updPlan b p s).pbc = s.pbc ∧ (updPlan b p s).scs = s.scs ∧ (updPlan b p s).clr = s.clr ∧
    (updPlan b p s).pal = s.pal ∧ (updPlan b p s).lce = s.lce ∧ (updPlan b p s).frs = s.frs ∧
    (updPlan b p s).dpc = s.dpc ∧ (updPlan b p s).pending = s.pending := by
  simp [updPlan]

@[simp] theorem updPalBay_frame (b : Bay) (f : PalBay → PalBay) (s : State) :
    (updPalBay b f s).clk = s.clk ∧ (updPalBay b f s).clu = s.clu ∧ (updPalBay b f s).params = s.params ∧
    (updPalBay b f s).pbc = s.pbc ∧ (updPalBay b f s).scs = s.scs ∧ (updPalBay b f s).clr = s.clr ∧
    (updPalBay b f s).hpl = s.hpl ∧ (updPalBay b f s).lce = s.lce ∧ (updPalBay b f s).frs = s.frs ∧
    (updPalBay b f s).dpc = s.dpc ∧ (updPalBay b f s).pending = s.pending := by
  simp [updPalBay]

@[simp] theorem updFault_frame (b : Bay) (f : FaultBay → FaultBay) (s : State) :
    (updFault b f s).clk = s.clk ∧ (updFault b f s).clu = s.clu ∧ (updFault b f s).params = s.params ∧
    (updFault b f s).pbc = s.pbc ∧ (updFault b f s).scs = s.scs ∧ (updFault b f s).clr = s.clr ∧
    (updFault b f s).hpl = s.hpl ∧ (updFault b f s).pal = s.pal ∧ (updFault b f s).lce = s.lce ∧
    (updFault b f s).dpc = s.dpc ∧ (updFault b f s).pending = s.pending := by
  simp [updFault]

@[simp] theorem updDpc_frame (b : Bay) (f : DpcBay → DpcBay) (s : State) :
    (updDpc b f s).clk = s.clk ∧ (updDpc b f s).clu = s.clu ∧ (updDpc b f s).params = s.params ∧
    (updDpc b f s).pbc = s.pbc ∧ (updDpc b f s).scs = s.scs ∧ (updDpc b f s).clr = s.clr ∧
    (updDpc b f s).hpl = s.hpl ∧ (updDpc b f s).pal = s.pal ∧ (updDpc b f s).lce = s.lce ∧
    (updDpc b f s).frs = s.frs ∧ (updDpc b f s).pending = s.pending := by
  simp [updDpc]

@[simp] theorem updCtx_frame (c : CtxId) (x : Option Ctx) (s : State) :
    (updCtx c x s).clk = s.clk ∧ (updCtx c x s).clu = s.clu ∧ (updCtx c x s).params = s.params ∧
    (updCtx c x s).pbc = s.pbc ∧ (updCtx c x s).scs = s.scs ∧ (updCtx c x s).clr = s.clr ∧
    (updCtx c x s).hpl = s.hpl ∧ (updCtx c x s).pal = s.pal ∧ (updCtx c x s).frs = s.frs ∧
    (updCtx c x s).dpc = s.dpc ∧ (updCtx c x s).pending = s.pending := by
  simp [updCtx]

/-! ### The bus (chapter 2) -/

@[simp] theorem outputWrite_frame (b : Bay) (f : Image → Image) (m : Marks) (s : State) :
    (outputWrite b f m s).clk = s.clk ∧ (outputWrite b f m s).clu = s.clu ∧
    (outputWrite b f m s).params = s.params ∧ (outputWrite b f m s).scs = s.scs ∧
    (outputWrite b f m s).clr = s.clr ∧ (outputWrite b f m s).hpl = s.hpl ∧ (outputWrite b f m s).pal = s.pal ∧
    (outputWrite b f m s).lce = s.lce ∧ (outputWrite b f m s).frs = s.frs ∧ (outputWrite b f m s).dpc = s.dpc ∧
    (outputWrite b f m s).pending = s.pending := by
  simp [outputWrite]

@[simp] theorem contactorWrite_frame (b : Bay) (closed : Bool) (s : State) :
    (contactorWrite b closed s).clk = s.clk ∧ (contactorWrite b closed s).clu = s.clu ∧
    (contactorWrite b closed s).params = s.params ∧ (contactorWrite b closed s).scs = s.scs ∧
    (contactorWrite b closed s).clr = s.clr ∧ (contactorWrite b closed s).hpl = s.hpl ∧
    (contactorWrite b closed s).pal = s.pal ∧ (contactorWrite b closed s).lce = s.lce ∧
    (contactorWrite b closed s).frs = s.frs ∧ (contactorWrite b closed s).dpc = s.dpc ∧
    (contactorWrite b closed s).pending = s.pending := by
  simp [contactorWrite]

@[simp] theorem aspectWrite_frame (b : Bay) (a : Aspect) (s : State) :
    (aspectWrite b a s).clk = s.clk ∧ (aspectWrite b a s).clu = s.clu ∧ (aspectWrite b a s).params = s.params ∧
    (aspectWrite b a s).scs = s.scs ∧ (aspectWrite b a s).clr = s.clr ∧ (aspectWrite b a s).hpl = s.hpl ∧
    (aspectWrite b a s).pal = s.pal ∧ (aspectWrite b a s).lce = s.lce ∧ (aspectWrite b a s).frs = s.frs ∧
    (aspectWrite b a s).dpc = s.dpc ∧ (aspectWrite b a s).pending = s.pending := by
  simp [aspectWrite]

@[simp] theorem supplyWrite_frame (b : Bay) (on : Bool) (s : State) :
    (supplyWrite b on s).clk = s.clk ∧ (supplyWrite b on s).clu = s.clu ∧ (supplyWrite b on s).params = s.params ∧
    (supplyWrite b on s).scs = s.scs ∧ (supplyWrite b on s).clr = s.clr ∧ (supplyWrite b on s).hpl = s.hpl ∧
    (supplyWrite b on s).pal = s.pal ∧ (supplyWrite b on s).lce = s.lce ∧ (supplyWrite b on s).frs = s.frs ∧
    (supplyWrite b on s).dpc = s.dpc ∧ (supplyWrite b on s).pending = s.pending := by
  simp [supplyWrite]

@[simp] theorem restoreWrite_frame (b : Bay) (s : State) :
    (restoreWrite b s).clk = s.clk ∧ (restoreWrite b s).clu = s.clu ∧ (restoreWrite b s).params = s.params ∧
    (restoreWrite b s).scs = s.scs ∧ (restoreWrite b s).clr = s.clr ∧ (restoreWrite b s).hpl = s.hpl ∧
    (restoreWrite b s).pal = s.pal ∧ (restoreWrite b s).lce = s.lce ∧ (restoreWrite b s).frs = s.frs ∧
    (restoreWrite b s).dpc = s.dpc ∧ (restoreWrite b s).pending = s.pending := by
  simp [restoreWrite]

@[simp] theorem enqueue_frame (c : BusClass) (who : Who) (b : Bay) (o : Order) (s : State) :
    (enqueue c who b o s).clk = s.clk ∧ (enqueue c who b o s).clu = s.clu ∧
    (enqueue c who b o s).params = s.params ∧ (enqueue c who b o s).scs = s.scs ∧
    (enqueue c who b o s).clr = s.clr ∧ (enqueue c who b o s).hpl = s.hpl ∧ (enqueue c who b o s).pal = s.pal ∧
    (enqueue c who b o s).lce = s.lce ∧ (enqueue c who b o s).frs = s.frs ∧ (enqueue c who b o s).dpc = s.dpc ∧
    (enqueue c who b o s).pending = s.pending := by
  unfold enqueue; split <;> simp

@[simp] theorem withdraw_frame (who : Who) (s : State) :
    (withdraw who s).clk = s.clk ∧ (withdraw who s).clu = s.clu ∧ (withdraw who s).params = s.params ∧
    (withdraw who s).scs = s.scs ∧ (withdraw who s).clr = s.clr ∧ (withdraw who s).hpl = s.hpl ∧
    (withdraw who s).pal = s.pal ∧ (withdraw who s).lce = s.lce ∧ (withdraw who s).frs = s.frs ∧
    (withdraw who s).dpc = s.dpc ∧ (withdraw who s).pending = s.pending := by
  simp [withdraw]

@[simp] theorem discardCurrent_frame (s : State) :
    (discardCurrent s).clk = s.clk ∧ (discardCurrent s).clu = s.clu ∧ (discardCurrent s).params = s.params ∧
    (discardCurrent s).scs = s.scs ∧ (discardCurrent s).clr = s.clr ∧ (discardCurrent s).hpl = s.hpl ∧
    (discardCurrent s).pal = s.pal ∧ (discardCurrent s).lce = s.lce ∧ (discardCurrent s).frs = s.frs ∧
    (discardCurrent s).dpc = s.dpc ∧ (discardCurrent s).pending = s.pending := by
  simp [discardCurrent]

@[simp] theorem dropQueued_frame (b : Bay) (s : State) :
    (dropQueued b s).clk = s.clk ∧ (dropQueued b s).clu = s.clu ∧ (dropQueued b s).params = s.params ∧
    (dropQueued b s).scs = s.scs ∧ (dropQueued b s).clr = s.clr ∧ (dropQueued b s).hpl = s.hpl ∧
    (dropQueued b s).pal = s.pal ∧ (dropQueued b s).lce = s.lce ∧ (dropQueued b s).frs = s.frs ∧
    (dropQueued b s).dpc = s.dpc ∧ (dropQueued b s).pending = s.pending := by
  simp [dropQueued]

@[simp] theorem requestBroadcast_frame (s : State) :
    (requestBroadcast s).clk = s.clk ∧ (requestBroadcast s).clu = s.clu ∧ (requestBroadcast s).params = s.params ∧
    (requestBroadcast s).scs = s.scs ∧ (requestBroadcast s).clr = s.clr ∧ (requestBroadcast s).hpl = s.hpl ∧
    (requestBroadcast s).pal = s.pal ∧ (requestBroadcast s).lce = s.lce ∧ (requestBroadcast s).frs = s.frs ∧
    (requestBroadcast s).dpc = s.dpc ∧ (requestBroadcast s).pending = s.pending := by
  simp [requestBroadcast]

@[simp] theorem grantScan_frame (r : ScanReq) (s : State) :
    (grantScan r s).clk = s.clk ∧ (grantScan r s).clu = s.clu ∧ (grantScan r s).params = s.params ∧
    (grantScan r s).scs = s.scs ∧ (grantScan r s).clr = s.clr ∧ (grantScan r s).hpl = s.hpl ∧
    (grantScan r s).pal = s.pal ∧ (grantScan r s).lce = s.lce ∧ (grantScan r s).frs = s.frs ∧
    (grantScan r s).dpc = s.dpc ∧ (grantScan r s).pending = s.pending := by
  simp [grantScan]

@[simp] theorem grantByClass_frame (s : State) :
    (grantByClass s).clk = s.clk ∧ (grantByClass s).clu = s.clu ∧ (grantByClass s).params = s.params ∧
    (grantByClass s).scs = s.scs ∧ (grantByClass s).clr = s.clr ∧ (grantByClass s).hpl = s.hpl ∧
    (grantByClass s).pal = s.pal ∧ (grantByClass s).lce = s.lce ∧ (grantByClass s).frs = s.frs ∧
    (grantByClass s).dpc = s.dpc ∧ (grantByClass s).pending = s.pending := by
  unfold grantByClass; (repeat' split) <;> simp

@[simp] theorem arbitrate_frame (s : State) :
    (arbitrate s).clk = s.clk ∧ (arbitrate s).clu = s.clu ∧ (arbitrate s).params = s.params ∧
    (arbitrate s).scs = s.scs ∧ (arbitrate s).clr = s.clr ∧ (arbitrate s).hpl = s.hpl ∧
    (arbitrate s).pal = s.pal ∧ (arbitrate s).lce = s.lce ∧ (arbitrate s).frs = s.frs ∧
    (arbitrate s).dpc = s.dpc ∧ (arbitrate s).pending = s.pending := by
  unfold arbitrate; (repeat' split) <;> simp

/-! ### The power of the bays (chapter 6) -/

@[simp] theorem updGrant_frame (b : Bay) (f : Grant → Grant) (s : State) :
    (updGrant b f s).clk = s.clk ∧ (updGrant b f s).clu = s.clu ∧ (updGrant b f s).params = s.params ∧
    (updGrant b f s).pbc = s.pbc ∧ (updGrant b f s).scs = s.scs ∧ (updGrant b f s).clr = s.clr ∧
    (updGrant b f s).hpl = s.hpl ∧ (updGrant b f s).lce = s.lce ∧ (updGrant b f s).frs = s.frs ∧
    (updGrant b f s).dpc = s.dpc ∧ (updGrant b f s).pending = s.pending := by
  simp [updGrant]

@[simp] theorem grantLeaves_frame (b : Bay) (s : State) :
    (grantLeaves b s).clk = s.clk ∧ (grantLeaves b s).clu = s.clu ∧ (grantLeaves b s).params = s.params ∧
    (grantLeaves b s).pbc = s.pbc ∧ (grantLeaves b s).scs = s.scs ∧ (grantLeaves b s).clr = s.clr ∧
    (grantLeaves b s).hpl = s.hpl ∧ (grantLeaves b s).lce = s.lce ∧ (grantLeaves b s).frs = s.frs ∧
    (grantLeaves b s).dpc = s.dpc ∧ (grantLeaves b s).pending = s.pending := by
  simp [grantLeaves]

@[simp] theorem releaseGrant_frame (g : Grant) (s : State) :
    (releaseGrant g s).clk = s.clk ∧ (releaseGrant g s).clu = s.clu ∧ (releaseGrant g s).params = s.params ∧
    (releaseGrant g s).scs = s.scs ∧ (releaseGrant g s).clr = s.clr ∧ (releaseGrant g s).hpl = s.hpl ∧
    (releaseGrant g s).lce = s.lce ∧ (releaseGrant g s).frs = s.frs ∧ (releaseGrant g s).dpc = s.dpc ∧
    (releaseGrant g s).pending = s.pending := by
  unfold releaseGrant; split <;> simp

@[simp] theorem palRelease_frame (b : Bay) (s : State) :
    (palRelease b s).clk = s.clk ∧ (palRelease b s).clu = s.clu ∧ (palRelease b s).params = s.params ∧
    (palRelease b s).scs = s.scs ∧ (palRelease b s).clr = s.clr ∧ (palRelease b s).hpl = s.hpl ∧
    (palRelease b s).lce = s.lce ∧ (palRelease b s).frs = s.frs ∧ (palRelease b s).dpc = s.dpc ∧
    (palRelease b s).pending = s.pending := by
  unfold palRelease; split <;> simp

@[simp] theorem examineClosing_frame (s : State) :
    (examineClosing s).clk = s.clk ∧ (examineClosing s).clu = s.clu ∧ (examineClosing s).params = s.params ∧
    (examineClosing s).scs = s.scs ∧ (examineClosing s).clr = s.clr ∧ (examineClosing s).hpl = s.hpl ∧
    (examineClosing s).lce = s.lce ∧ (examineClosing s).frs = s.frs ∧ (examineClosing s).dpc = s.dpc ∧
    (examineClosing s).pending = s.pending := by
  unfold examineClosing; (repeat' split) <;> simp

@[simp] theorem closeTaken_frame (b : Bay) (s : State) :
    (closeTaken b s).clk = s.clk ∧ (closeTaken b s).clu = s.clu ∧ (closeTaken b s).params = s.params ∧
    (closeTaken b s).scs = s.scs ∧ (closeTaken b s).clr = s.clr ∧ (closeTaken b s).hpl = s.hpl ∧
    (closeTaken b s).lce = s.lce ∧ (closeTaken b s).frs = s.frs ∧ (closeTaken b s).dpc = s.dpc ∧
    (closeTaken b s).pending = s.pending := by
  simp [closeTaken]

@[simp] theorem shedToBudget_frame (n : Nat) (s : State) :
    (shedToBudget n s).clk = s.clk ∧ (shedToBudget n s).clu = s.clu ∧ (shedToBudget n s).params = s.params ∧
    (shedToBudget n s).scs = s.scs ∧ (shedToBudget n s).clr = s.clr ∧ (shedToBudget n s).hpl = s.hpl ∧
    (shedToBudget n s).lce = s.lce ∧ (shedToBudget n s).frs = s.frs ∧ (shedToBudget n s).dpc = s.dpc ∧
    (shedToBudget n s).pending = s.pending := by
  induction n generalizing s with
  | zero => simp [shedToBudget]
  | succ n ih => unfold shedToBudget; (repeat' split) <;> simp [ih]

@[simp] theorem rotation_frame (s : State) :
    (rotation s).clk = s.clk ∧ (rotation s).clu = s.clu ∧ (rotation s).params = s.params ∧
    (rotation s).scs = s.scs ∧ (rotation s).clr = s.clr ∧ (rotation s).hpl = s.hpl ∧ (rotation s).lce = s.lce ∧
    (rotation s).frs = s.frs ∧ (rotation s).dpc = s.dpc ∧ (rotation s).pending = s.pending := by
  simp [rotation]

@[simp] theorem admitBay_frame (b : Bay) (p : Nat) (s : State) :
    (admitBay b p s).clk = s.clk ∧ (admitBay b p s).clu = s.clu ∧ (admitBay b p s).params = s.params ∧
    (admitBay b p s).pbc = s.pbc ∧ (admitBay b p s).scs = s.scs ∧ (admitBay b p s).clr = s.clr ∧
    (admitBay b p s).hpl = s.hpl ∧ (admitBay b p s).lce = s.lce ∧ (admitBay b p s).frs = s.frs ∧
    (admitBay b p s).dpc = s.dpc ∧ (admitBay b p s).pending = s.pending := by
  simp [admitBay]

@[simp] theorem makeRoom_frame (n : Nat) (p : Nat) (s : State) :
    (makeRoom n p s).clk = s.clk ∧ (makeRoom n p s).clu = s.clu ∧ (makeRoom n p s).params = s.params ∧
    (makeRoom n p s).scs = s.scs ∧ (makeRoom n p s).clr = s.clr ∧ (makeRoom n p s).hpl = s.hpl ∧
    (makeRoom n p s).lce = s.lce ∧ (makeRoom n p s).frs = s.frs ∧ (makeRoom n p s).dpc = s.dpc ∧
    (makeRoom n p s).pending = s.pending := by
  induction n generalizing s with
  | zero => simp [makeRoom]
  | succ n ih => unfold makeRoom; (repeat' split) <;> simp [ih]

@[simp] theorem urgentWalk_frame (xs : List Bay) (last : Option Bay) (s : State) :
    (urgentWalk xs last s).1.clk = s.clk ∧ (urgentWalk xs last s).1.clu = s.clu ∧
    (urgentWalk xs last s).1.params = s.params ∧ (urgentWalk xs last s).1.scs = s.scs ∧
    (urgentWalk xs last s).1.clr = s.clr ∧ (urgentWalk xs last s).1.hpl = s.hpl ∧
    (urgentWalk xs last s).1.lce = s.lce ∧ (urgentWalk xs last s).1.frs = s.frs ∧
    (urgentWalk xs last s).1.dpc = s.dpc ∧ (urgentWalk xs last s).1.pending = s.pending := by
  induction xs generalizing last s with
  | nil => simp [urgentWalk]
  | cons x xs ih => unfold urgentWalk; (repeat' split) <;> simp [ih]

@[simp] theorem urgentAdmission_frame (s : State) :
    (urgentAdmission s).clk = s.clk ∧ (urgentAdmission s).clu = s.clu ∧ (urgentAdmission s).params = s.params ∧
    (urgentAdmission s).scs = s.scs ∧ (urgentAdmission s).clr = s.clr ∧ (urgentAdmission s).hpl = s.hpl ∧
    (urgentAdmission s).lce = s.lce ∧ (urgentAdmission s).frs = s.frs ∧ (urgentAdmission s).dpc = s.dpc ∧
    (urgentAdmission s).pending = s.pending := by
  unfold urgentAdmission; dsimp only; split <;> simp

@[simp] theorem normalWalk_frame (xs : List Bay) (last : Option Bay) (s : State) :
    (normalWalk xs last s).1.clk = s.clk ∧ (normalWalk xs last s).1.clu = s.clu ∧
    (normalWalk xs last s).1.params = s.params ∧ (normalWalk xs last s).1.pbc = s.pbc ∧
    (normalWalk xs last s).1.scs = s.scs ∧ (normalWalk xs last s).1.clr = s.clr ∧
    (normalWalk xs last s).1.hpl = s.hpl ∧ (normalWalk xs last s).1.lce = s.lce ∧
    (normalWalk xs last s).1.frs = s.frs ∧ (normalWalk xs last s).1.dpc = s.dpc ∧
    (normalWalk xs last s).1.pending = s.pending := by
  induction xs generalizing last s with
  | nil => simp [normalWalk]
  | cons x xs ih => unfold normalWalk; (repeat' split) <;> simp [ih]

@[simp] theorem normalAdmission_frame (s : State) :
    (normalAdmission s).clk = s.clk ∧ (normalAdmission s).clu = s.clu ∧ (normalAdmission s).params = s.params ∧
    (normalAdmission s).pbc = s.pbc ∧ (normalAdmission s).scs = s.scs ∧ (normalAdmission s).clr = s.clr ∧
    (normalAdmission s).hpl = s.hpl ∧ (normalAdmission s).lce = s.lce ∧ (normalAdmission s).frs = s.frs ∧
    (normalAdmission s).dpc = s.dpc ∧ (normalAdmission s).pending = s.pending := by
  unfold normalAdmission; dsimp only; (repeat' split) <;> simp

@[simp] theorem passOnce_frame (minute : Bool) (s : State) :
    (passOnce minute s).clk = s.clk ∧ (passOnce minute s).clu = s.clu ∧ (passOnce minute s).params = s.params ∧
    (passOnce minute s).scs = s.scs ∧ (passOnce minute s).clr = s.clr ∧ (passOnce minute s).hpl = s.hpl ∧
    (passOnce minute s).lce = s.lce ∧ (passOnce minute s).frs = s.frs ∧ (passOnce minute s).dpc = s.dpc ∧
    (passOnce minute s).pending = s.pending := by
  simp [passOnce]

@[simp] theorem passLoop_frame (n : Nat) (m : Bool) (s : State) :
    (passLoop n m s).clk = s.clk ∧ (passLoop n m s).clu = s.clu ∧ (passLoop n m s).params = s.params ∧
    (passLoop n m s).scs = s.scs ∧ (passLoop n m s).clr = s.clr ∧ (passLoop n m s).hpl = s.hpl ∧
    (passLoop n m s).lce = s.lce ∧ (passLoop n m s).frs = s.frs ∧ (passLoop n m s).dpc = s.dpc ∧
    (passLoop n m s).pending = s.pending := by
  induction n generalizing m s with
  | zero => simp [passLoop]
  | succ n ih => simp [passLoop, ih]

@[simp] theorem allocationPass_frame (minute : Bool) (s : State) :
    (allocationPass minute s).clk = s.clk ∧ (allocationPass minute s).clu = s.clu ∧
    (allocationPass minute s).params = s.params ∧ (allocationPass minute s).scs = s.scs ∧
    (allocationPass minute s).clr = s.clr ∧ (allocationPass minute s).hpl = s.hpl ∧
    (allocationPass minute s).lce = s.lce ∧ (allocationPass minute s).frs = s.frs ∧
    (allocationPass minute s).dpc = s.dpc ∧ (allocationPass minute s).pending = s.pending := by
  simp [allocationPass]

@[simp] theorem workOutBudget_frame (s : State) :
    (workOutBudget s).clk = s.clk ∧ (workOutBudget s).clu = s.clu ∧ (workOutBudget s).params = s.params ∧
    (workOutBudget s).pbc = s.pbc ∧ (workOutBudget s).scs = s.scs ∧ (workOutBudget s).clr = s.clr ∧
    (workOutBudget s).hpl = s.hpl ∧ (workOutBudget s).lce = s.lce ∧ (workOutBudget s).frs = s.frs ∧
    (workOutBudget s).dpc = s.dpc ∧ (workOutBudget s).pending = s.pending := by
  simp [workOutBudget]

@[simp] theorem budgetChanged_frame (s : State) :
    (budgetChanged s).clk = s.clk ∧ (budgetChanged s).clu = s.clu ∧ (budgetChanged s).params = s.params ∧
    (budgetChanged s).scs = s.scs ∧ (budgetChanged s).clr = s.clr ∧ (budgetChanged s).hpl = s.hpl ∧
    (budgetChanged s).lce = s.lce ∧ (budgetChanged s).frs = s.frs ∧ (budgetChanged s).dpc = s.dpc ∧
    (budgetChanged s).pending = s.pending := by
  simp [budgetChanged]

@[simp] theorem palMinute_frame (s : State) :
    (palMinute s).clk = s.clk ∧ (palMinute s).clu = s.clu ∧ (palMinute s).params = s.params ∧
    (palMinute s).scs = s.scs ∧ (palMinute s).clr = s.clr ∧ (palMinute s).hpl = s.hpl ∧
    (palMinute s).lce = s.lce ∧ (palMinute s).frs = s.frs ∧ (palMinute s).dpc = s.dpc ∧
    (palMinute s).pending = s.pending := by
  simp [palMinute]

@[simp] theorem palPlanChange_frame (b : Bay) (s : State) :
    (palPlanChange b s).clk = s.clk ∧ (palPlanChange b s).clu = s.clu ∧ (palPlanChange b s).params = s.params ∧
    (palPlanChange b s).scs = s.scs ∧ (palPlanChange b s).clr = s.clr ∧ (palPlanChange b s).hpl = s.hpl ∧
    (palPlanChange b s).lce = s.lce ∧ (palPlanChange b s).frs = s.frs ∧ (palPlanChange b s).dpc = s.dpc ∧
    (palPlanChange b s).pending = s.pending := by
  simp [palPlanChange]

@[simp] theorem candidacyEvent_frame (s : State) :
    (candidacyEvent s).clk = s.clk ∧ (candidacyEvent s).clu = s.clu ∧ (candidacyEvent s).params = s.params ∧
    (candidacyEvent s).scs = s.scs ∧ (candidacyEvent s).clr = s.clr ∧ (candidacyEvent s).hpl = s.hpl ∧
    (candidacyEvent s).lce = s.lce ∧ (candidacyEvent s).frs = s.frs ∧ (candidacyEvent s).dpc = s.dpc ∧
    (candidacyEvent s).pending = s.pending := by
  simp [candidacyEvent]

@[simp] theorem palPlug_frame (b : Bay) (plugged : Bool) (s : State) :
    (palPlug b plugged s).clk = s.clk ∧ (palPlug b plugged s).clu = s.clu ∧
    (palPlug b plugged s).params = s.params ∧ (palPlug b plugged s).scs = s.scs ∧
    (palPlug b plugged s).clr = s.clr ∧ (palPlug b plugged s).hpl = s.hpl ∧ (palPlug b plugged s).lce = s.lce ∧
    (palPlug b plugged s).frs = s.frs ∧ (palPlug b plugged s).dpc = s.dpc ∧
    (palPlug b plugged s).pending = s.pending := by
  simp [palPlug]

@[simp] theorem palClassChange_frame (b : Bay) (s : State) :
    (palClassChange b s).clk = s.clk ∧ (palClassChange b s).clu = s.clu ∧ (palClassChange b s).params = s.params ∧
    (palClassChange b s).scs = s.scs ∧ (palClassChange b s).clr = s.clr ∧ (palClassChange b s).hpl = s.hpl ∧
    (palClassChange b s).lce = s.lce ∧ (palClassChange b s).frs = s.frs ∧ (palClassChange b s).dpc = s.dpc ∧
    (palClassChange b s).pending = s.pending := by
  simp [palClassChange]

@[simp] theorem palPause_frame (b : Bay) (s : State) :
    (palPause b s).clk = s.clk ∧ (palPause b s).clu = s.clu ∧ (palPause b s).params = s.params ∧
    (palPause b s).scs = s.scs ∧ (palPause b s).clr = s.clr ∧ (palPause b s).hpl = s.hpl ∧
    (palPause b s).lce = s.lce ∧ (palPause b s).frs = s.frs ∧ (palPause b s).dpc = s.dpc ∧
    (palPause b s).pending = s.pending := by
  simp [palPause]

@[simp] theorem palPauseEnd_frame (b : Bay) (s : State) :
    (palPauseEnd b s).clk = s.clk ∧ (palPauseEnd b s).clu = s.clu ∧ (palPauseEnd b s).params = s.params ∧
    (palPauseEnd b s).scs = s.scs ∧ (palPauseEnd b s).clr = s.clr ∧ (palPauseEnd b s).hpl = s.hpl ∧
    (palPauseEnd b s).lce = s.lce ∧ (palPauseEnd b s).frs = s.frs ∧ (palPauseEnd b s).dpc = s.dpc ∧
    (palPauseEnd b s).pending = s.pending := by
  simp [palPauseEnd]

@[simp] theorem palUnblock_frame (b : Bay) (s : State) :
    (palUnblock b s).clk = s.clk ∧ (palUnblock b s).clu = s.clu ∧ (palUnblock b s).params = s.params ∧
    (palUnblock b s).scs = s.scs ∧ (palUnblock b s).clr = s.clr ∧ (palUnblock b s).hpl = s.hpl ∧
    (palUnblock b s).lce = s.lce ∧ (palUnblock b s).frs = s.frs ∧ (palUnblock b s).dpc = s.dpc ∧
    (palUnblock b s).pending = s.pending := by
  simp [palUnblock]

@[simp] theorem palStop_frame (s : State) :
    (palStop s).clk = s.clk ∧ (palStop s).clu = s.clu ∧ (palStop s).params = s.params ∧ (palStop s).scs = s.scs ∧
    (palStop s).clr = s.clr ∧ (palStop s).hpl = s.hpl ∧ (palStop s).lce = s.lce ∧ (palStop s).frs = s.frs ∧
    (palStop s).dpc = s.dpc ∧ (palStop s).pending = s.pending := by
  simp [palStop]

@[simp] theorem palOffline_frame (b : Bay) (s : State) :
    (palOffline b s).clk = s.clk ∧ (palOffline b s).clu = s.clu ∧ (palOffline b s).params = s.params ∧
    (palOffline b s).scs = s.scs ∧ (palOffline b s).clr = s.clr ∧ (palOffline b s).hpl = s.hpl ∧
    (palOffline b s).lce = s.lce ∧ (palOffline b s).frs = s.frs ∧ (palOffline b s).dpc = s.dpc ∧
    (palOffline b s).pending = s.pending := by
  simp [palOffline]

@[simp] theorem openOutcome_frame (b : Bay) (ok : Bool) (s : State) :
    (openOutcome b ok s).clk = s.clk ∧ (openOutcome b ok s).clu = s.clu ∧ (openOutcome b ok s).params = s.params ∧
    (openOutcome b ok s).scs = s.scs ∧ (openOutcome b ok s).clr = s.clr ∧ (openOutcome b ok s).hpl = s.hpl ∧
    (openOutcome b ok s).lce = s.lce ∧ (openOutcome b ok s).frs = s.frs ∧ (openOutcome b ok s).dpc = s.dpc ∧
    (openOutcome b ok s).pending = s.pending := by
  simp [openOutcome]

@[simp] theorem palWriteReport_frame (b : Bay) (closed : Bool) (r : BusResult) (s : State) :
    (palWriteReport b closed r s).clk = s.clk ∧ (palWriteReport b closed r s).clu = s.clu ∧
    (palWriteReport b closed r s).params = s.params ∧ (palWriteReport b closed r s).scs = s.scs ∧
    (palWriteReport b closed r s).clr = s.clr ∧ (palWriteReport b closed r s).hpl = s.hpl ∧
    (palWriteReport b closed r s).lce = s.lce ∧ (palWriteReport b closed r s).frs = s.frs ∧
    (palWriteReport b closed r s).dpc = s.dpc ∧ (palWriteReport b closed r s).pending = s.pending := by
  unfold palWriteReport; (repeat' split) <;> simp

@[simp] theorem palMeasure_frame (b : Bay) (s : State) :
    (palMeasure b s).clk = s.clk ∧ (palMeasure b s).clu = s.clu ∧ (palMeasure b s).params = s.params ∧
    (palMeasure b s).pbc = s.pbc ∧ (palMeasure b s).scs = s.scs ∧ (palMeasure b s).clr = s.clr ∧
    (palMeasure b s).hpl = s.hpl ∧ (palMeasure b s).lce = s.lce ∧ (palMeasure b s).frs = s.frs ∧
    (palMeasure b s).dpc = s.dpc ∧ (palMeasure b s).pending = s.pending := by
  simp [palMeasure]

@[simp] theorem palReadback_frame (b : Bay) (s : State) :
    (palReadback b s).clk = s.clk ∧ (palReadback b s).clu = s.clu ∧ (palReadback b s).params = s.params ∧
    (palReadback b s).scs = s.scs ∧ (palReadback b s).clr = s.clr ∧ (palReadback b s).hpl = s.hpl ∧
    (palReadback b s).lce = s.lce ∧ (palReadback b s).frs = s.frs ∧ (palReadback b s).dpc = s.dpc ∧
    (palReadback b s).pending = s.pending := by
  unfold palReadback; split <;> simp

@[simp] theorem palCurrent_frame (b : Bay) (s : State) :
    (palCurrent b s).clk = s.clk ∧ (palCurrent b s).clu = s.clu ∧ (palCurrent b s).params = s.params ∧
    (palCurrent b s).pbc = s.pbc ∧ (palCurrent b s).scs = s.scs ∧ (palCurrent b s).clr = s.clr ∧
    (palCurrent b s).hpl = s.hpl ∧ (palCurrent b s).lce = s.lce ∧ (palCurrent b s).frs = s.frs ∧
    (palCurrent b s).dpc = s.dpc ∧ (palCurrent b s).pending = s.pending := by
  simp [palCurrent]

@[simp] theorem meterCheck_frame (s : State) :
    (meterCheck s).clk = s.clk ∧ (meterCheck s).params = s.params ∧ (meterCheck s).scs = s.scs ∧
    (meterCheck s).clr = s.clr ∧ (meterCheck s).hpl = s.hpl ∧ (meterCheck s).lce = s.lce ∧
    (meterCheck s).frs = s.frs ∧ (meterCheck s).dpc = s.dpc ∧ (meterCheck s).pending = s.pending := by
  unfold meterCheck; dsimp only; (repeat' split) <;> simp

/-! ### Heat plans (chapter 5) -/

@[simp] theorem planBay_frame (b : Bay) (s : State) :
    (planBay b s).clk = s.clk ∧ (planBay b s).clu = s.clu ∧ (planBay b s).params = s.params ∧
    (planBay b s).scs = s.scs ∧ (planBay b s).clr = s.clr ∧ (planBay b s).lce = s.lce ∧
    (planBay b s).frs = s.frs ∧ (planBay b s).dpc = s.dpc ∧ (planBay b s).pending = s.pending := by
  simp [planBay]

@[simp] theorem planAll_frame (s : State) :
    (planAll s).clk = s.clk ∧ (planAll s).clu = s.clu ∧ (planAll s).params = s.params ∧ (planAll s).scs = s.scs ∧
    (planAll s).clr = s.clr ∧ (planAll s).lce = s.lce ∧ (planAll s).frs = s.frs ∧ (planAll s).dpc = s.dpc ∧
    (planAll s).pending = s.pending := by
  simp [planAll]

@[simp] theorem acceptWeather_frame (t : Int) (s : State) :
    (acceptWeather t s).clk = s.clk ∧ (acceptWeather t s).clu = s.clu ∧ (acceptWeather t s).params = s.params ∧
    (acceptWeather t s).scs = s.scs ∧ (acceptWeather t s).clr = s.clr ∧ (acceptWeather t s).lce = s.lce ∧
    (acceptWeather t s).frs = s.frs ∧ (acceptWeather t s).dpc = s.dpc ∧ (acceptWeather t s).pending = s.pending := by
  simp [acceptWeather]

@[simp] theorem ageWeather_frame (s : State) :
    (ageWeather s).clk = s.clk ∧ (ageWeather s).clu = s.clu ∧ (ageWeather s).params = s.params ∧
    (ageWeather s).pbc = s.pbc ∧ (ageWeather s).scs = s.scs ∧ (ageWeather s).clr = s.clr ∧
    (ageWeather s).pal = s.pal ∧ (ageWeather s).lce = s.lce ∧ (ageWeather s).frs = s.frs ∧
    (ageWeather s).dpc = s.dpc ∧ (ageWeather s).pending = s.pending := by
  simp [ageWeather]

@[simp] theorem weatherLimit_frame (s : State) :
    (weatherLimit s).clk = s.clk ∧ (weatherLimit s).clu = s.clu ∧ (weatherLimit s).params = s.params ∧
    (weatherLimit s).pbc = s.pbc ∧ (weatherLimit s).scs = s.scs ∧ (weatherLimit s).clr = s.clr ∧
    (weatherLimit s).pal = s.pal ∧ (weatherLimit s).lce = s.lce ∧ (weatherLimit s).frs = s.frs ∧
    (weatherLimit s).dpc = s.dpc ∧ (weatherLimit s).pending = s.pending := by
  unfold weatherLimit; split <;> simp

end Sys2Proof.Machine
end

