-- ==== Sys2Proof/Laws/Departure.lean ====
section
/-! SUPPORT. Which parts of the state an operation keeps, said once for each operation:
the departure, the relay slots and the fault records. -/

namespace Sys2Proof.Machine

/-! ### The departure (chapter 9) -/

@[simp] theorem setEntryState_frame (id : Nat) (st : EntryState) (s : State) :
    (setEntryState id st s).clk = s.clk ∧ (setEntryState id st s).params = s.params ∧
    (setEntryState id st s).pbc = s.pbc ∧ (setEntryState id st s).scs = s.scs ∧
    (setEntryState id st s).clr = s.clr ∧ (setEntryState id st s).hpl = s.hpl ∧
    (setEntryState id st s).pal = s.pal ∧ (setEntryState id st s).lce = s.lce ∧
    (setEntryState id st s).frs = s.frs ∧ (setEntryState id st s).pending = s.pending := by
  simp [setEntryState]

@[simp] theorem callRule_frame (b : Bay) (s : State) :
    (callRule b s).clk = s.clk ∧ (callRule b s).params = s.params ∧ (callRule b s).pbc = s.pbc ∧
    (callRule b s).scs = s.scs ∧ (callRule b s).clr = s.clr ∧ (callRule b s).hpl = s.hpl ∧
    (callRule b s).pal = s.pal ∧ (callRule b s).lce = s.lce ∧ (callRule b s).frs = s.frs ∧
    (callRule b s).pending = s.pending := by
  unfold callRule; split <;> simp

@[simp] theorem refreshCurrent_frame (b : Bay) (s : State) :
    (refreshCurrent b s).1.clk = s.clk ∧ (refreshCurrent b s).1.params = s.params ∧
    (refreshCurrent b s).1.pbc = s.pbc ∧ (refreshCurrent b s).1.scs = s.scs ∧ (refreshCurrent b s).1.clr = s.clr ∧
    (refreshCurrent b s).1.hpl = s.hpl ∧ (refreshCurrent b s).1.pal = s.pal ∧ (refreshCurrent b s).1.lce = s.lce ∧
    (refreshCurrent b s).1.frs = s.frs ∧ (refreshCurrent b s).1.pending = s.pending := by
  unfold refreshCurrent; dsimp only; (repeat' split) <;> simp

@[simp] theorem enterState_frame (b : Bay) (st : ClearState) (s : State) :
    (enterState b st s).clk = s.clk ∧ (enterState b st s).clu = s.clu ∧ (enterState b st s).params = s.params ∧
    (enterState b st s).scs = s.scs ∧ (enterState b st s).clr = s.clr ∧ (enterState b st s).hpl = s.hpl ∧
    (enterState b st s).pal = s.pal ∧ (enterState b st s).lce = s.lce ∧ (enterState b st s).frs = s.frs ∧
    (enterState b st s).pending = s.pending := by
  simp [enterState]

@[simp] theorem stopOverdue_frame (b : Bay) (s : State) :
    (stopOverdue b s).clk = s.clk ∧ (stopOverdue b s).clu = s.clu ∧ (stopOverdue b s).params = s.params ∧
    (stopOverdue b s).pbc = s.pbc ∧ (stopOverdue b s).scs = s.scs ∧ (stopOverdue b s).clr = s.clr ∧
    (stopOverdue b s).hpl = s.hpl ∧ (stopOverdue b s).pal = s.pal ∧ (stopOverdue b s).lce = s.lce ∧
    (stopOverdue b s).frs = s.frs ∧ (stopOverdue b s).pending = s.pending := by
  simp [stopOverdue]

@[simp] theorem uncallCleared_frame (b : Bay) (s : State) :
    (uncallCleared b s).clk = s.clk ∧ (uncallCleared b s).params = s.params ∧ (uncallCleared b s).pbc = s.pbc ∧
    (uncallCleared b s).scs = s.scs ∧ (uncallCleared b s).clr = s.clr ∧ (uncallCleared b s).hpl = s.hpl ∧
    (uncallCleared b s).pal = s.pal ∧ (uncallCleared b s).lce = s.lce ∧ (uncallCleared b s).frs = s.frs ∧
    (uncallCleared b s).pending = s.pending := by
  unfold uncallCleared; split <;> simp

@[simp] theorem enterReleasing_frame (b : Bay) (s : State) :
    (enterReleasing b s).clk = s.clk ∧ (enterReleasing b s).clu = s.clu ∧ (enterReleasing b s).params = s.params ∧
    (enterReleasing b s).scs = s.scs ∧ (enterReleasing b s).clr = s.clr ∧ (enterReleasing b s).hpl = s.hpl ∧
    (enterReleasing b s).pal = s.pal ∧ (enterReleasing b s).lce = s.lce ∧ (enterReleasing b s).frs = s.frs ∧
    (enterReleasing b s).pending = s.pending := by
  simp [enterReleasing]

@[simp] theorem enterCleared_frame (b : Bay) (s : State) :
    (enterCleared b s).clk = s.clk ∧ (enterCleared b s).params = s.params ∧ (enterCleared b s).scs = s.scs ∧
    (enterCleared b s).clr = s.clr ∧ (enterCleared b s).hpl = s.hpl ∧ (enterCleared b s).pal = s.pal ∧
    (enterCleared b s).lce = s.lce ∧ (enterCleared b s).frs = s.frs ∧ (enterCleared b s).pending = s.pending := by
  unfold enterCleared; split <;> simp

@[simp] theorem replug_frame (b : Bay) (s : State) :
    (replug b s).clk = s.clk ∧ (replug b s).params = s.params ∧ (replug b s).scs = s.scs ∧
    (replug b s).clr = s.clr ∧ (replug b s).hpl = s.hpl ∧ (replug b s).pal = s.pal ∧ (replug b s).lce = s.lce ∧
    (replug b s).frs = s.frs ∧ (replug b s).pending = s.pending := by
  simp [replug]

@[simp] theorem holdReturn_frame (b : Bay) (s : State) :
    (holdReturn b s).clk = s.clk ∧ (holdReturn b s).params = s.params ∧ (holdReturn b s).scs = s.scs ∧
    (holdReturn b s).clr = s.clr ∧ (holdReturn b s).hpl = s.hpl ∧ (holdReturn b s).pal = s.pal ∧
    (holdReturn b s).lce = s.lce ∧ (holdReturn b s).frs = s.frs ∧ (holdReturn b s).pending = s.pending := by
  unfold holdReturn; split <;> simp

theorem decideStep_frame {t : State} (b : Bay) (s : State) (h : decideStep b s = some t) :
    t.clk = s.clk ∧ t.params = s.params ∧ t.scs = s.scs ∧ t.clr = s.clr ∧ t.hpl = s.hpl ∧ t.pal = s.pal ∧
    t.lce = s.lce ∧ t.frs = s.frs ∧ t.pending = s.pending := by
  unfold decideStep at h; dsimp only at h
  (repeat' split at h) <;> simp_all <;> (try subst h) <;> simp

@[simp] theorem decideLoop_frame (n : Nat) (b : Bay) (s : State) (m : Bool) :
    (decideLoop n b s m).1.clk = s.clk ∧ (decideLoop n b s m).1.params = s.params ∧
    (decideLoop n b s m).1.scs = s.scs ∧ (decideLoop n b s m).1.clr = s.clr ∧ (decideLoop n b s m).1.hpl = s.hpl ∧
    (decideLoop n b s m).1.pal = s.pal ∧ (decideLoop n b s m).1.lce = s.lce ∧ (decideLoop n b s m).1.frs = s.frs ∧
    (decideLoop n b s m).1.pending = s.pending := by
  induction n generalizing b s m with
  | zero => simp [decideLoop]
  | succ n ih =>
    unfold decideLoop
    cases e : decideStep b s with
    | none => simp
    | some t => simpa [ih] using decideStep_frame _ _ e

@[simp] theorem decideBay_frame (b : Bay) (s : State) :
    (decideBay b s).clk = s.clk ∧ (decideBay b s).params = s.params ∧ (decideBay b s).scs = s.scs ∧
    (decideBay b s).clr = s.clr ∧ (decideBay b s).lce = s.lce ∧ (decideBay b s).frs = s.frs ∧
    (decideBay b s).pending = s.pending := by
  simp [decideBay]

@[simp] theorem decideAll_frame (s : State) :
    (decideAll s).clk = s.clk ∧ (decideAll s).params = s.params ∧ (decideAll s).scs = s.scs ∧
    (decideAll s).clr = s.clr ∧ (decideAll s).lce = s.lce ∧ (decideAll s).frs = s.frs ∧
    (decideAll s).pending = s.pending := by
  simp [decideAll]

@[simp] theorem entriesChanged_frame (b : Bay) (s : State) :
    (entriesChanged b s).clk = s.clk ∧ (entriesChanged b s).params = s.params ∧ (entriesChanged b s).scs = s.scs ∧
    (entriesChanged b s).clr = s.clr ∧ (entriesChanged b s).lce = s.lce ∧ (entriesChanged b s).frs = s.frs ∧
    (entriesChanged b s).pending = s.pending := by
  simp [entriesChanged]

@[simp] theorem holdArises_frame (r : HoldReason) (b : Bay) (s : State) :
    (holdArises r b s).clk = s.clk ∧ (holdArises r b s).params = s.params ∧ (holdArises r b s).scs = s.scs ∧
    (holdArises r b s).clr = s.clr ∧ (holdArises r b s).lce = s.lce ∧ (holdArises r b s).frs = s.frs ∧
    (holdArises r b s).pending = s.pending := by
  simp [holdArises]

@[simp] theorem holdClears_frame (r : HoldReason) (b : Bay) (s : State) :
    (holdClears r b s).clk = s.clk ∧ (holdClears r b s).clu = s.clu ∧ (holdClears r b s).params = s.params ∧
    (holdClears r b s).pbc = s.pbc ∧ (holdClears r b s).scs = s.scs ∧ (holdClears r b s).clr = s.clr ∧
    (holdClears r b s).hpl = s.hpl ∧ (holdClears r b s).pal = s.pal ∧ (holdClears r b s).lce = s.lce ∧
    (holdClears r b s).frs = s.frs ∧ (holdClears r b s).pending = s.pending := by
  simp [holdClears]

@[simp] theorem pathChange_frame (b : Bay) (s : State) :
    (pathChange b s).clk = s.clk ∧ (pathChange b s).params = s.params ∧ (pathChange b s).scs = s.scs ∧
    (pathChange b s).clr = s.clr ∧ (pathChange b s).lce = s.lce ∧ (pathChange b s).frs = s.frs ∧
    (pathChange b s).pending = s.pending := by
  simp [pathChange]

@[simp] theorem pathBehind_frame (b : Bay) (s : State) :
    (pathBehind b s).clk = s.clk ∧ (pathBehind b s).params = s.params ∧ (pathBehind b s).scs = s.scs ∧
    (pathBehind b s).clr = s.clr ∧ (pathBehind b s).lce = s.lce ∧ (pathBehind b s).frs = s.frs ∧
    (pathBehind b s).pending = s.pending := by
  simp [pathBehind]

@[simp] theorem writeSupply_frame (b : Bay) (s : State) :
    (writeSupply b s).clk = s.clk ∧ (writeSupply b s).clu = s.clu ∧ (writeSupply b s).params = s.params ∧
    (writeSupply b s).scs = s.scs ∧ (writeSupply b s).clr = s.clr ∧ (writeSupply b s).hpl = s.hpl ∧
    (writeSupply b s).pal = s.pal ∧ (writeSupply b s).lce = s.lce ∧ (writeSupply b s).frs = s.frs ∧
    (writeSupply b s).pending = s.pending := by
  simp [writeSupply]

@[simp] theorem heldPlug_frame (b : Bay) (plugged : Bool) (s : State) :
    (heldPlug b plugged s).clk = s.clk ∧ (heldPlug b plugged s).params = s.params ∧
    (heldPlug b plugged s).scs = s.scs ∧ (heldPlug b plugged s).clr = s.clr ∧ (heldPlug b plugged s).lce = s.lce ∧
    (heldPlug b plugged s).frs = s.frs ∧ (heldPlug b plugged s).pending = s.pending := by
  unfold heldPlug; split <;> simp

@[simp] theorem plugReturn_frame (b : Bay) (s : State) :
    (plugReturn b s).clk = s.clk ∧ (plugReturn b s).params = s.params ∧ (plugReturn b s).scs = s.scs ∧
    (plugReturn b s).clr = s.clr ∧ (plugReturn b s).lce = s.lce ∧ (plugReturn b s).frs = s.frs ∧
    (plugReturn b s).pending = s.pending := by
  unfold plugReturn; split <;> simp

@[simp] theorem dpcPlug_frame (b : Bay) (plugged : Bool) (s : State) :
    (dpcPlug b plugged s).clk = s.clk ∧ (dpcPlug b plugged s).params = s.params ∧
    (dpcPlug b plugged s).scs = s.scs ∧ (dpcPlug b plugged s).clr = s.clr ∧ (dpcPlug b plugged s).lce = s.lce ∧
    (dpcPlug b plugged s).frs = s.frs ∧ (dpcPlug b plugged s).pending = s.pending := by
  simp [dpcPlug]

@[simp] theorem dpcOccupied_frame (b : Bay) (s : State) :
    (dpcOccupied b s).clk = s.clk ∧ (dpcOccupied b s).params = s.params ∧ (dpcOccupied b s).scs = s.scs ∧
    (dpcOccupied b s).clr = s.clr ∧ (dpcOccupied b s).lce = s.lce ∧ (dpcOccupied b s).frs = s.frs ∧
    (dpcOccupied b s).pending = s.pending := by
  simp [dpcOccupied]

@[simp] theorem exitEntry_frame (b : Bay) (s : State) :
    (exitEntry b s).clk = s.clk ∧ (exitEntry b s).params = s.params ∧ (exitEntry b s).pbc = s.pbc ∧
    (exitEntry b s).scs = s.scs ∧ (exitEntry b s).clr = s.clr ∧ (exitEntry b s).hpl = s.hpl ∧
    (exitEntry b s).pal = s.pal ∧ (exitEntry b s).lce = s.lce ∧ (exitEntry b s).frs = s.frs ∧
    (exitEntry b s).pending = s.pending := by
  unfold exitEntry; (repeat' split) <;> simp

@[simp] theorem dpcExit_frame (b : Bay) (s : State) :
    (dpcExit b s).clk = s.clk ∧ (dpcExit b s).params = s.params ∧ (dpcExit b s).scs = s.scs ∧
    (dpcExit b s).clr = s.clr ∧ (dpcExit b s).lce = s.lce ∧ (dpcExit b s).frs = s.frs ∧
    (dpcExit b s).pending = s.pending := by
  simp [dpcExit]

@[simp] theorem signalCheck_frame (b : Bay) (s : State) :
    (signalCheck b s).clk = s.clk ∧ (signalCheck b s).params = s.params ∧ (signalCheck b s).scs = s.scs ∧
    (signalCheck b s).clr = s.clr ∧ (signalCheck b s).lce = s.lce ∧ (signalCheck b s).frs = s.frs ∧
    (signalCheck b s).pending = s.pending := by
  unfold signalCheck; dsimp only; split <;> simp

@[simp] theorem stopButton_frame (b : Bay) (s : State) :
    (stopButton b s).clk = s.clk ∧ (stopButton b s).params = s.params ∧ (stopButton b s).scs = s.scs ∧
    (stopButton b s).clr = s.clr ∧ (stopButton b s).lce = s.lce ∧ (stopButton b s).frs = s.frs ∧
    (stopButton b s).pending = s.pending := by
  simp [stopButton]

@[simp] theorem dpcReport_frame (b : Bay) (s : State) :
    (dpcReport b s).clk = s.clk ∧ (dpcReport b s).params = s.params ∧ (dpcReport b s).scs = s.scs ∧
    (dpcReport b s).clr = s.clr ∧ (dpcReport b s).lce = s.lce ∧ (dpcReport b s).frs = s.frs ∧
    (dpcReport b s).pending = s.pending := by
  simp [dpcReport]

@[simp] theorem dpcWriteReport_frame (b : Bay) (sent : Image) (r : BusResult) (s : State) :
    (dpcWriteReport b sent r s).clk = s.clk ∧ (dpcWriteReport b sent r s).params = s.params ∧
    (dpcWriteReport b sent r s).scs = s.scs ∧ (dpcWriteReport b sent r s).clr = s.clr ∧
    (dpcWriteReport b sent r s).lce = s.lce ∧ (dpcWriteReport b sent r s).frs = s.frs ∧
    (dpcWriteReport b sent r s).pending = s.pending := by
  unfold dpcWriteReport; split <;> simp

@[simp] theorem dpcOffline_frame (b : Bay) (s : State) :
    (dpcOffline b s).clk = s.clk ∧ (dpcOffline b s).params = s.params ∧ (dpcOffline b s).scs = s.scs ∧
    (dpcOffline b s).clr = s.clr ∧ (dpcOffline b s).lce = s.lce ∧ (dpcOffline b s).frs = s.frs ∧
    (dpcOffline b s).pending = s.pending := by
  simp [dpcOffline]

@[simp] theorem markDue_frame (minute : Nat) (s : State) :
    (markDue minute s).clk = s.clk ∧ (markDue minute s).clu = s.clu ∧ (markDue minute s).params = s.params ∧
    (markDue minute s).pbc = s.pbc ∧ (markDue minute s).scs = s.scs ∧ (markDue minute s).clr = s.clr ∧
    (markDue minute s).hpl = s.hpl ∧ (markDue minute s).pal = s.pal ∧ (markDue minute s).lce = s.lce ∧
    (markDue minute s).frs = s.frs ∧ (markDue minute s).pending = s.pending := by
  simp [markDue]

@[simp] theorem forwardStep_frame (old : Nat) (k : Nat) (s : State) :
    (forwardStep old k s).clk = s.clk ∧ (forwardStep old k s).clu = s.clu ∧
    (forwardStep old k s).params = s.params ∧ (forwardStep old k s).pbc = s.pbc ∧
    (forwardStep old k s).scs = s.scs ∧ (forwardStep old k s).clr = s.clr ∧ (forwardStep old k s).hpl = s.hpl ∧
    (forwardStep old k s).pal = s.pal ∧ (forwardStep old k s).lce = s.lce ∧ (forwardStep old k s).frs = s.frs ∧
    (forwardStep old k s).pending = s.pending := by
  simp [forwardStep]

@[simp] theorem missEntries_frame (s : State) :
    (missEntries s).clk = s.clk ∧ (missEntries s).params = s.params ∧ (missEntries s).pbc = s.pbc ∧
    (missEntries s).scs = s.scs ∧ (missEntries s).clr = s.clr ∧ (missEntries s).hpl = s.hpl ∧
    (missEntries s).pal = s.pal ∧ (missEntries s).lce = s.lce ∧ (missEntries s).frs = s.frs ∧
    (missEntries s).pending = s.pending := by
  simp [missEntries]

@[simp] theorem removeEntries_frame (s : State) :
    (removeEntries s).clk = s.clk ∧ (removeEntries s).params = s.params ∧ (removeEntries s).pbc = s.pbc ∧
    (removeEntries s).scs = s.scs ∧ (removeEntries s).clr = s.clr ∧ (removeEntries s).hpl = s.hpl ∧
    (removeEntries s).pal = s.pal ∧ (removeEntries s).lce = s.lce ∧ (removeEntries s).frs = s.frs ∧
    (removeEntries s).pending = s.pending := by
  simp [removeEntries]

/-- R174, R178, R184: the entry a bay entered RELEASING or was held with is never one that step 3 removes. -/
@[simp] theorem removeEntries_relEntry (b : Bay) (s : State) :
    (removeEntries s).dpc.bays[b].relEntry =
      s.dpc.bays[b].relEntry.filter fun id => !(s.dpc.entries.filter (isOld s)).any (·.id == id) := by
  simp [removeEntries]

@[simp] theorem currentAtTick_frame (b : Bay) (s : State) :
    (currentAtTick b s).clk = s.clk ∧ (currentAtTick b s).params = s.params ∧ (currentAtTick b s).scs = s.scs ∧
    (currentAtTick b s).clr = s.clr ∧ (currentAtTick b s).lce = s.lce ∧ (currentAtTick b s).frs = s.frs ∧
    (currentAtTick b s).pending = s.pending := by
  simp [currentAtTick]

@[simp] theorem dpcMinute_frame (minute : Nat) (s : State) :
    (dpcMinute minute s).clk = s.clk ∧ (dpcMinute minute s).params = s.params ∧ (dpcMinute minute s).scs = s.scs ∧
    (dpcMinute minute s).clr = s.clr ∧ (dpcMinute minute s).lce = s.lce ∧ (dpcMinute minute s).frs = s.frs ∧
    (dpcMinute minute s).pending = s.pending := by
  simp [dpcMinute]

@[simp] theorem callLeadChanged_frame (s : State) :
    (callLeadChanged s).clk = s.clk ∧ (callLeadChanged s).params = s.params ∧ (callLeadChanged s).scs = s.scs ∧
    (callLeadChanged s).clr = s.clr ∧ (callLeadChanged s).lce = s.lce ∧ (callLeadChanged s).frs = s.frs ∧
    (callLeadChanged s).pending = s.pending := by
  simp [callLeadChanged]

@[simp] theorem overdueLimit_frame (b : Bay) (s : State) :
    (overdueLimit b s).clk = s.clk ∧ (overdueLimit b s).params = s.params ∧ (overdueLimit b s).pbc = s.pbc ∧
    (overdueLimit b s).scs = s.scs ∧ (overdueLimit b s).clr = s.clr ∧ (overdueLimit b s).hpl = s.hpl ∧
    (overdueLimit b s).pal = s.pal ∧ (overdueLimit b s).lce = s.lce ∧ (overdueLimit b s).frs = s.frs ∧
    (overdueLimit b s).pending = s.pending := by
  unfold overdueLimit; split <;> simp

@[simp] theorem setPin_frame (high : Bool) (s : State) :
    (setPin high s).clk = s.clk ∧ (setPin high s).clu = s.clu ∧ (setPin high s).params = s.params ∧
    (setPin high s).pbc = s.pbc ∧ (setPin high s).scs = s.scs ∧ (setPin high s).clr = s.clr ∧
    (setPin high s).hpl = s.hpl ∧ (setPin high s).pal = s.pal ∧ (setPin high s).lce = s.lce ∧
    (setPin high s).frs = s.frs ∧ (setPin high s).pending = s.pending := by
  simp [setPin]

@[simp] theorem latchAssert_frame (s : State) :
    (latchAssert s).clk = s.clk ∧ (latchAssert s).params = s.params ∧ (latchAssert s).pbc = s.pbc ∧
    (latchAssert s).scs = s.scs ∧ (latchAssert s).clr = s.clr ∧ (latchAssert s).hpl = s.hpl ∧
    (latchAssert s).pal = s.pal ∧ (latchAssert s).lce = s.lce ∧ (latchAssert s).frs = s.frs ∧
    (latchAssert s).pending = s.pending := by
  simp [latchAssert]

@[simp] theorem latchRelease_frame (s : State) :
    (latchRelease s).clk = s.clk ∧ (latchRelease s).params = s.params ∧ (latchRelease s).pbc = s.pbc ∧
    (latchRelease s).scs = s.scs ∧ (latchRelease s).clr = s.clr ∧ (latchRelease s).hpl = s.hpl ∧
    (latchRelease s).pal = s.pal ∧ (latchRelease s).lce = s.lce ∧ (latchRelease s).frs = s.frs ∧
    (latchRelease s).pending = s.pending := by
  simp [latchRelease]

@[simp] theorem pinChange_frame (high : Bool) (s : State) :
    (pinChange high s).clk = s.clk ∧ (pinChange high s).clu = s.clu ∧ (pinChange high s).params = s.params ∧
    (pinChange high s).pbc = s.pbc ∧ (pinChange high s).scs = s.scs ∧ (pinChange high s).clr = s.clr ∧
    (pinChange high s).hpl = s.hpl ∧ (pinChange high s).pal = s.pal ∧ (pinChange high s).lce = s.lce ∧
    (pinChange high s).frs = s.frs ∧ (pinChange high s).pending = s.pending := by
  simp [pinChange]

@[simp] theorem gateReading_frame (s : State) :
    (gateReading s).params = s.params ∧ (gateReading s).scs = s.scs ∧ (gateReading s).clr = s.clr ∧
    (gateReading s).lce = s.lce ∧ (gateReading s).frs = s.frs ∧ (gateReading s).pending = s.pending := by
  unfold gateReading; dsimp only; (repeat' split) <;> simp

@[simp] theorem dpcStop_frame (s : State) :
    (dpcStop s).clk = s.clk ∧ (dpcStop s).params = s.params ∧ (dpcStop s).scs = s.scs ∧ (dpcStop s).clr = s.clr ∧
    (dpcStop s).lce = s.lce ∧ (dpcStop s).frs = s.frs ∧ (dpcStop s).pending = s.pending := by
  simp [dpcStop]

@[simp] theorem dpcStart_frame (s : State) :
    (dpcStart s).clk = s.clk ∧ (dpcStart s).params = s.params ∧ (dpcStart s).scs = s.scs ∧
    (dpcStart s).clr = s.clr ∧ (dpcStart s).lce = s.lce ∧ (dpcStart s).frs = s.frs ∧
    (dpcStart s).pending = s.pending := by
  simp [dpcStart]

/-! ### The relay slots (chapter 4) -/

@[simp] theorem slotEnd_frame (b : Bay) (s : State) :
    (slotEnd b s).clk = s.clk ∧ (slotEnd b s).clu = s.clu ∧ (slotEnd b s).params = s.params ∧
    (slotEnd b s).pbc = s.pbc ∧ (slotEnd b s).scs = s.scs ∧ (slotEnd b s).hpl = s.hpl ∧
    (slotEnd b s).pal = s.pal ∧ (slotEnd b s).lce = s.lce ∧ (slotEnd b s).frs = s.frs ∧
    (slotEnd b s).dpc = s.dpc ∧ (slotEnd b s).pending = s.pending := by
  simp [slotEnd]

theorem requestRelay_frame {t : State} (b : Bay) (o : Order) (s : State) (h : requestRelay b o s = some t) :
    t.clk = s.clk ∧ t.clu = s.clu ∧ t.params = s.params ∧ t.scs = s.scs ∧ t.clr = s.clr ∧ t.hpl = s.hpl ∧
    t.pal = s.pal ∧ t.lce = s.lce ∧ t.frs = s.frs ∧ t.dpc = s.dpc ∧ t.pending = s.pending := by
  unfold requestRelay at h; split at h
  · cases h
  · cases h; simp

@[simp] theorem requestSend_frame (b : Bay) (s : State) :
    (requestSend b s).1.clk = s.clk ∧ (requestSend b s).1.clu = s.clu ∧ (requestSend b s).1.params = s.params ∧
    (requestSend b s).1.scs = s.scs ∧ (requestSend b s).1.hpl = s.hpl ∧ (requestSend b s).1.pal = s.pal ∧
    (requestSend b s).1.lce = s.lce ∧ (requestSend b s).1.frs = s.frs ∧ (requestSend b s).1.dpc = s.dpc ∧
    (requestSend b s).1.pending = s.pending := by
  unfold requestSend; split
  · next t e => simp [requestRelay_frame _ _ _ e]
  · simp

@[simp] theorem relayAsk_frame (b : Bay) (who : Requester) (m : CoachMsg) (s : State) :
    (relayAsk b who m s).1.clk = s.clk ∧ (relayAsk b who m s).1.clu = s.clu ∧
    (relayAsk b who m s).1.params = s.params ∧ (relayAsk b who m s).1.scs = s.scs ∧
    (relayAsk b who m s).1.hpl = s.hpl ∧ (relayAsk b who m s).1.pal = s.pal ∧ (relayAsk b who m s).1.lce = s.lce ∧
    (relayAsk b who m s).1.frs = s.frs ∧ (relayAsk b who m s).1.dpc = s.dpc ∧
    (relayAsk b who m s).1.pending = s.pending := by
  unfold relayAsk; dsimp only; (repeat' split) <;> simp

theorem clearingFetch_frame {t : State} (b : Bay) (s : State) (h : clearingFetch b s = some t) :
    t.clk = s.clk ∧ t.clu = s.clu ∧ t.params = s.params ∧ t.scs = s.scs ∧ t.hpl = s.hpl ∧ t.pal = s.pal ∧
    t.lce = s.lce ∧ t.frs = s.frs ∧ t.dpc = s.dpc ∧ t.pending = s.pending := by
  unfold clearingFetch at h; dsimp only at h; split at h
  · cases h; simp
  · simp [requestRelay_frame _ _ _ h]

@[simp] theorem slotDrop_frame (b : Bay) (s : State) :
    (slotDrop b s).clk = s.clk ∧ (slotDrop b s).clu = s.clu ∧ (slotDrop b s).params = s.params ∧
    (slotDrop b s).scs = s.scs ∧ (slotDrop b s).hpl = s.hpl ∧ (slotDrop b s).pal = s.pal ∧
    (slotDrop b s).lce = s.lce ∧ (slotDrop b s).frs = s.frs ∧ (slotDrop b s).dpc = s.dpc ∧
    (slotDrop b s).pending = s.pending := by
  simp [slotDrop]

@[simp] theorem relayCancel_frame (b : Bay) (who : Requester) (s : State) :
    (relayCancel b who s).clk = s.clk ∧ (relayCancel b who s).clu = s.clu ∧
    (relayCancel b who s).params = s.params ∧ (relayCancel b who s).scs = s.scs ∧
    (relayCancel b who s).hpl = s.hpl ∧ (relayCancel b who s).pal = s.pal ∧ (relayCancel b who s).lce = s.lce ∧
    (relayCancel b who s).frs = s.frs ∧ (relayCancel b who s).dpc = s.dpc ∧
    (relayCancel b who s).pending = s.pending := by
  have k : ∀ u t, ((clearingFetch b u).getD t = t) ∨ clearingFetch b u = some ((clearingFetch b u).getD t) := by
    intro u t; cases clearingFetch b u <;> simp
  unfold relayCancel; dsimp only
  (repeat' split) <;> try simp
  rcases k (updSlot b (fun t => { t with cancelled := true }) s)
      (slotEnd b (updSlot b (fun t => { t with cancelled := true }) s)) with e | e
  · rw [e]; simp
  · simp [clearingFetch_frame _ _ e]

/-! ### Fault records (chapter 8) -/

@[simp] theorem keepRecords_frame (b : Bay) (p : FaultRec → Bool) (s : State) :
    (keepRecords b p s).clk = s.clk ∧ (keepRecords b p s).clu = s.clu ∧ (keepRecords b p s).params = s.params ∧
    (keepRecords b p s).pbc = s.pbc ∧ (keepRecords b p s).scs = s.scs ∧ (keepRecords b p s).clr = s.clr ∧
    (keepRecords b p s).hpl = s.hpl ∧ (keepRecords b p s).pal = s.pal ∧ (keepRecords b p s).lce = s.lce ∧
    (keepRecords b p s).dpc = s.dpc ∧ (keepRecords b p s).pending = s.pending := by
  simp [keepRecords]

@[simp] theorem insertRecord_frame (b : Bay) (r : FaultRec) (s : State) :
    (insertRecord b r s).1.clk = s.clk ∧ (insertRecord b r s).1.clu = s.clu ∧
    (insertRecord b r s).1.params = s.params ∧ (insertRecord b r s).1.pbc = s.pbc ∧
    (insertRecord b r s).1.scs = s.scs ∧ (insertRecord b r s).1.clr = s.clr ∧ (insertRecord b r s).1.hpl = s.hpl ∧
    (insertRecord b r s).1.pal = s.pal ∧ (insertRecord b r s).1.lce = s.lce ∧ (insertRecord b r s).1.dpc = s.dpc ∧
    (insertRecord b r s).1.pending = s.pending := by
  unfold insertRecord; dsimp only; (repeat' split) <;> simp

@[simp] theorem mergeEntry_frame (b : Bay) (e : PageEntry) (s : State) :
    (mergeEntry b e s).clk = s.clk ∧ (mergeEntry b e s).clu = s.clu ∧ (mergeEntry b e s).params = s.params ∧
    (mergeEntry b e s).pbc = s.pbc ∧ (mergeEntry b e s).scs = s.scs ∧ (mergeEntry b e s).clr = s.clr ∧
    (mergeEntry b e s).hpl = s.hpl ∧ (mergeEntry b e s).pal = s.pal ∧ (mergeEntry b e s).lce = s.lce ∧
    (mergeEntry b e s).dpc = s.dpc ∧ (mergeEntry b e s).pending = s.pending := by
  simp [mergeEntry]

@[simp] theorem completeRead_frame (b : Bay) (s : State) :
    (completeRead b s).clk = s.clk ∧ (completeRead b s).clu = s.clu ∧ (completeRead b s).params = s.params ∧
    (completeRead b s).pbc = s.pbc ∧ (completeRead b s).scs = s.scs ∧ (completeRead b s).clr = s.clr ∧
    (completeRead b s).hpl = s.hpl ∧ (completeRead b s).pal = s.pal ∧ (completeRead b s).lce = s.lce ∧
    (completeRead b s).dpc = s.dpc ∧ (completeRead b s).pending = s.pending := by
  simp [completeRead]

@[simp] theorem stopRead_frame (b : Bay) (s : State) :
    (stopRead b s).clk = s.clk ∧ (stopRead b s).clu = s.clu ∧ (stopRead b s).params = s.params ∧
    (stopRead b s).pbc = s.pbc ∧ (stopRead b s).scs = s.scs ∧ (stopRead b s).clr = s.clr ∧
    (stopRead b s).hpl = s.hpl ∧ (stopRead b s).pal = s.pal ∧ (stopRead b s).lce = s.lce ∧
    (stopRead b s).dpc = s.dpc ∧ (stopRead b s).pending = s.pending := by
  simp [stopRead]

@[simp] theorem overlongRead_frame (b : Bay) (s : State) :
    (overlongRead b s).clk = s.clk ∧ (overlongRead b s).clu = s.clu ∧ (overlongRead b s).params = s.params ∧
    (overlongRead b s).pbc = s.pbc ∧ (overlongRead b s).scs = s.scs ∧ (overlongRead b s).clr = s.clr ∧
    (overlongRead b s).hpl = s.hpl ∧ (overlongRead b s).pal = s.pal ∧ (overlongRead b s).lce = s.lce ∧
    (overlongRead b s).dpc = s.dpc ∧ (overlongRead b s).pending = s.pending := by
  simp [overlongRead]

@[simp] theorem askPage_frame (b : Bay) (s : State) :
    (askPage b s).clk = s.clk ∧ (askPage b s).clu = s.clu ∧ (askPage b s).params = s.params ∧
    (askPage b s).scs = s.scs ∧ (askPage b s).hpl = s.hpl ∧ (askPage b s).pal = s.pal ∧
    (askPage b s).lce = s.lce ∧ (askPage b s).dpc = s.dpc ∧ (askPage b s).pending = s.pending := by
  unfold askPage; dsimp only; split <;> simp

@[simp] theorem faultChange_frame (b : Bay) (old : FaultBay) (s : State) :
    (faultChange b old s).clk = s.clk ∧ (faultChange b old s).params = s.params ∧ (faultChange b old s).scs = s.scs ∧
    (faultChange b old s).clr = s.clr ∧ (faultChange b old s).lce = s.lce ∧ (faultChange b old s).frs = s.frs ∧
    (faultChange b old s).pending = s.pending := by
  unfold faultChange; dsimp only; split <;> simp

/-- R168: what an event of the FRS does, with what it tells the others. -/
theorem frsEvent_eq (b : Bay) (f : State → State) (s : State) :
    frsEvent b f s = f s ∨ frsEvent b f s = faultChange b s.frs.bays[b] (f s) := by
  unfold frsEvent; dsimp only; split <;> simp

@[simp] theorem frsEvent_frame (b : Bay) (f : State → State) (s : State) :
    (frsEvent b f s).clk = (f s).clk ∧ (frsEvent b f s).params = (f s).params ∧ (frsEvent b f s).scs = (f s).scs ∧
    (frsEvent b f s).clr = (f s).clr ∧ (frsEvent b f s).lce = (f s).lce ∧ (frsEvent b f s).frs = (f s).frs ∧
    (frsEvent b f s).pending = (f s).pending := by
  obtain h | h := frsEvent_eq b f s <;> simp [h]

@[simp] theorem startRead_frame (b : Bay) (s : State) :
    (startRead b s).clk = s.clk ∧ (startRead b s).params = s.params ∧ (startRead b s).scs = s.scs ∧
    (startRead b s).lce = s.lce ∧ (startRead b s).pending = s.pending := by
  simp [startRead]

@[simp] theorem readOutcome_frame (b : Bay) (r : RelayEnd) (s : State) :
    (readOutcome b r s).clk = s.clk ∧ (readOutcome b r s).params = s.params ∧ (readOutcome b r s).scs = s.scs ∧
    (readOutcome b r s).lce = s.lce ∧ (readOutcome b r s).pending = s.pending := by
  unfold readOutcome; split <;> simp

@[simp] theorem readSlotFree_frame (b : Bay) (s : State) :
    (readSlotFree b s).clk = s.clk ∧ (readSlotFree b s).params = s.params ∧ (readSlotFree b s).scs = s.scs ∧
    (readSlotFree b s).lce = s.lce ∧ (readSlotFree b s).pending = s.pending := by
  simp [readSlotFree]

@[simp] theorem endRead_frame (b : Bay) (s : State) :
    (endRead b s).clk = s.clk ∧ (endRead b s).clu = s.clu ∧ (endRead b s).params = s.params ∧
    (endRead b s).scs = s.scs ∧ (endRead b s).hpl = s.hpl ∧ (endRead b s).pal = s.pal ∧
    (endRead b s).lce = s.lce ∧ (endRead b s).dpc = s.dpc ∧ (endRead b s).pending = s.pending := by
  unfold endRead; split <;> simp

@[simp] theorem frsIdentStart_frame (b : Bay) (s : State) :
    (frsIdentStart b s).clk = s.clk ∧ (frsIdentStart b s).params = s.params ∧ (frsIdentStart b s).scs = s.scs ∧
    (frsIdentStart b s).lce = s.lce ∧ (frsIdentStart b s).pending = s.pending := by
  simp [frsIdentStart]

@[simp] theorem frsMinute_frame (s : State) :
    (frsMinute s).clk = s.clk ∧ (frsMinute s).params = s.params ∧ (frsMinute s).scs = s.scs ∧
    (frsMinute s).lce = s.lce ∧ (frsMinute s).pending = s.pending := by
  simp [frsMinute]

@[simp] theorem insertAll_frame (b : Bay) (xs : List FaultRec) (s : State) :
    (insertAll b xs s).1.clk = s.clk ∧ (insertAll b xs s).1.clu = s.clu ∧ (insertAll b xs s).1.params = s.params ∧
    (insertAll b xs s).1.pbc = s.pbc ∧ (insertAll b xs s).1.scs = s.scs ∧ (insertAll b xs s).1.clr = s.clr ∧
    (insertAll b xs s).1.hpl = s.hpl ∧ (insertAll b xs s).1.pal = s.pal ∧ (insertAll b xs s).1.lce = s.lce ∧
    (insertAll b xs s).1.dpc = s.dpc ∧ (insertAll b xs s).1.pending = s.pending := by
  induction xs generalizing s with
  | nil => simp [insertAll]
  | cons x xs ih => simp [insertAll, ih]

@[simp] theorem lampReplacement_frame (b : Bay) (entries : List StepEntry) (s : State) :
    (lampReplacement b entries s).clk = s.clk ∧ (lampReplacement b entries s).params = s.params ∧
    (lampReplacement b entries s).scs = s.scs ∧ (lampReplacement b entries s).clr = s.clr ∧
    (lampReplacement b entries s).lce = s.lce ∧ (lampReplacement b entries s).pending = s.pending := by
  simp [lampReplacement]

@[simp] theorem heaterRecord_frame (b : Bay) (k : HeaterKind) (s : State) :
    (heaterRecord b k s).clk = s.clk ∧ (heaterRecord b k s).params = s.params ∧ (heaterRecord b k s).scs = s.scs ∧
    (heaterRecord b k s).clr = s.clr ∧ (heaterRecord b k s).lce = s.lce ∧
    (heaterRecord b k s).pending = s.pending := by
  simp [heaterRecord]

@[simp] theorem heaterFault_frame (b : Bay) (k : HeaterKind) (s : State) :
    (heaterFault b k s).clk = s.clk ∧ (heaterFault b k s).params = s.params ∧ (heaterFault b k s).scs = s.scs ∧
    (heaterFault b k s).clr = s.clr ∧ (heaterFault b k s).lce = s.lce ∧ (heaterFault b k s).pending = s.pending := by
  simp [heaterFault]

@[simp] theorem contactorStuck_frame (b : Bay) (s : State) :
    (contactorStuck b s).clk = s.clk ∧ (contactorStuck b s).params = s.params ∧ (contactorStuck b s).scs = s.scs ∧
    (contactorStuck b s).clr = s.clr ∧ (contactorStuck b s).lce = s.lce ∧
    (contactorStuck b s).pending = s.pending := by
  simp [contactorStuck]

@[simp] theorem palReport_frame (b : Bay) (s : State) :
    (palReport b s).clk = s.clk ∧ (palReport b s).params = s.params ∧ (palReport b s).scs = s.scs ∧
    (palReport b s).clr = s.clr ∧ (palReport b s).lce = s.lce ∧ (palReport b s).pending = s.pending := by
  simp [palReport]

@[simp] theorem noLoad_frame (b : Bay) (s : State) :
    (noLoad b s).clk = s.clk ∧ (noLoad b s).params = s.params ∧ (noLoad b s).scs = s.scs ∧
    (noLoad b s).clr = s.clr ∧ (noLoad b s).lce = s.lce ∧ (noLoad b s).pending = s.pending := by
  unfold noLoad; split <;> simp

@[simp] theorem stuckLimit_frame (b : Bay) (s : State) :
    (stuckLimit b s).clk = s.clk ∧ (stuckLimit b s).params = s.params ∧ (stuckLimit b s).scs = s.scs ∧
    (stuckLimit b s).clr = s.clr ∧ (stuckLimit b s).lce = s.lce ∧ (stuckLimit b s).pending = s.pending := by
  unfold stuckLimit; split <;> simp

@[simp] theorem clearPart_frame (b : Bay) (o : Origin) (s : State) :
    (clearPart b o s).clk = s.clk ∧ (clearPart b o s).params = s.params ∧ (clearPart b o s).scs = s.scs ∧
    (clearPart b o s).clr = s.clr ∧ (clearPart b o s).lce = s.lce ∧ (clearPart b o s).pending = s.pending := by
  simp [clearPart]

@[simp] theorem waiveRecords_frame (b : Bay) (code : Nat) (s : State) :
    (waiveRecords b code s).clk = s.clk ∧ (waiveRecords b code s).params = s.params ∧
    (waiveRecords b code s).scs = s.scs ∧ (waiveRecords b code s).clr = s.clr ∧
    (waiveRecords b code s).lce = s.lce ∧ (waiveRecords b code s).pending = s.pending := by
  simp [waiveRecords]

@[simp] theorem frsFree_frame (b : Bay) (s : State) :
    (frsFree b s).clk = s.clk ∧ (frsFree b s).params = s.params ∧ (frsFree b s).scs = s.scs ∧
    (frsFree b s).lce = s.lce ∧ (frsFree b s).pending = s.pending := by
  simp [frsFree]

end Sys2Proof.Machine
end

