-- ==== Sys2Proof/Laws/Outcomes.lean ====
section
/-! SUPPORT. Which parts of the state an operation keeps, said once for each operation:
the lamp checks, the identification and the outcomes of bus transactions. -/

namespace Sys2Proof.Machine

/-! ### Lamp checks (chapter 7) -/

@[simp] theorem leaveQueue_frame (b : Bay) (s : State) :
    (leaveQueue b s).clk = s.clk ∧ (leaveQueue b s).clu = s.clu ∧ (leaveQueue b s).params = s.params ∧
    (leaveQueue b s).pbc = s.pbc ∧ (leaveQueue b s).scs = s.scs ∧ (leaveQueue b s).clr = s.clr ∧
    (leaveQueue b s).hpl = s.hpl ∧ (leaveQueue b s).pal = s.pal ∧ (leaveQueue b s).frs = s.frs ∧
    (leaveQueue b s).dpc = s.dpc ∧ (leaveQueue b s).pending = s.pending := by
  simp [leaveQueue]

@[simp] theorem takeUp_frame (c : CtxId) (b : Bay) (s : State) :
    (takeUp c b s).clk = s.clk ∧ (takeUp c b s).clu = s.clu ∧ (takeUp c b s).params = s.params ∧
    (takeUp c b s).scs = s.scs ∧ (takeUp c b s).clr = s.clr ∧ (takeUp c b s).hpl = s.hpl ∧
    (takeUp c b s).frs = s.frs ∧ (takeUp c b s).dpc = s.dpc ∧ (takeUp c b s).pending = s.pending := by
  unfold takeUp; split <;> simp

@[simp] theorem examineWalk_frame (xs : List Bay) (s : State) :
    (examineWalk xs s).clk = s.clk ∧ (examineWalk xs s).clu = s.clu ∧ (examineWalk xs s).params = s.params ∧
    (examineWalk xs s).scs = s.scs ∧ (examineWalk xs s).clr = s.clr ∧ (examineWalk xs s).hpl = s.hpl ∧
    (examineWalk xs s).frs = s.frs ∧ (examineWalk xs s).dpc = s.dpc ∧ (examineWalk xs s).pending = s.pending := by
  induction xs generalizing s with
  | nil => simp [examineWalk]
  | cons x xs ih => unfold examineWalk; (repeat' split) <;> simp [ih]

@[simp] theorem examineQueue_frame (s : State) :
    (examineQueue s).clk = s.clk ∧ (examineQueue s).clu = s.clu ∧ (examineQueue s).params = s.params ∧
    (examineQueue s).scs = s.scs ∧ (examineQueue s).clr = s.clr ∧ (examineQueue s).hpl = s.hpl ∧
    (examineQueue s).frs = s.frs ∧ (examineQueue s).dpc = s.dpc ∧ (examineQueue s).pending = s.pending := by
  simp [examineQueue]

@[simp] theorem freeCtx_frame (c : CtxId) (s : State) :
    (freeCtx c s).clk = s.clk ∧ (freeCtx c s).clu = s.clu ∧ (freeCtx c s).params = s.params ∧
    (freeCtx c s).scs = s.scs ∧ (freeCtx c s).clr = s.clr ∧ (freeCtx c s).hpl = s.hpl ∧
    (freeCtx c s).frs = s.frs ∧ (freeCtx c s).dpc = s.dpc ∧ (freeCtx c s).pending = s.pending := by
  simp [freeCtx]

@[simp] theorem finalAllOff_frame (c : CtxId) (x : Ctx) (s : State) :
    (finalAllOff c x s).clk = s.clk ∧ (finalAllOff c x s).clu = s.clu ∧ (finalAllOff c x s).params = s.params ∧
    (finalAllOff c x s).scs = s.scs ∧ (finalAllOff c x s).hpl = s.hpl ∧ (finalAllOff c x s).frs = s.frs ∧
    (finalAllOff c x s).dpc = s.dpc ∧ (finalAllOff c x s).pending = s.pending := by
  unfold finalAllOff; dsimp only; (repeat' split) <;> simp

@[simp] theorem enterEnding_frame (c : CtxId) (x : Ctx) (o : CheckOutcome) (cause : Option AbortCause) (s : State) :
    (enterEnding c x o cause s).clk = s.clk ∧ (enterEnding c x o cause s).params = s.params ∧
    (enterEnding c x o cause s).scs = s.scs ∧ (enterEnding c x o cause s).pending = s.pending := by
  simp [enterEnding]

@[simp] theorem completeCheck_frame (c : CtxId) (x : Ctx) (s : State) :
    (completeCheck c x s).clk = s.clk ∧ (completeCheck c x s).params = s.params ∧
    (completeCheck c x s).scs = s.scs ∧ (completeCheck c x s).pending = s.pending := by
  simp [completeCheck]

@[simp] theorem dropRequest_frame (c : CtxId) (x : Ctx) (s : State) :
    (dropRequest c x s).clk = s.clk ∧ (dropRequest c x s).clu = s.clu ∧ (dropRequest c x s).params = s.params ∧
    (dropRequest c x s).scs = s.scs ∧ (dropRequest c x s).hpl = s.hpl ∧ (dropRequest c x s).pal = s.pal ∧
    (dropRequest c x s).lce = s.lce ∧ (dropRequest c x s).frs = s.frs ∧ (dropRequest c x s).dpc = s.dpc ∧
    (dropRequest c x s).pending = s.pending := by
  unfold dropRequest; split <;> simp

@[simp] theorem abortCtx_frame (c : CtxId) (cause : AbortCause) (s : State) :
    (abortCtx c cause s).clk = s.clk ∧ (abortCtx c cause s).params = s.params ∧ (abortCtx c cause s).scs = s.scs ∧
    (abortCtx c cause s).pending = s.pending := by
  unfold abortCtx; split <;> simp

@[simp] theorem dropEnding_frame (c : CtxId) (x : Ctx) (s : State) :
    (dropEnding c x s).clk = s.clk ∧ (dropEnding c x s).clu = s.clu ∧ (dropEnding c x s).params = s.params ∧
    (dropEnding c x s).scs = s.scs ∧ (dropEnding c x s).hpl = s.hpl ∧ (dropEnding c x s).frs = s.frs ∧
    (dropEnding c x s).dpc = s.dpc ∧ (dropEnding c x s).pending = s.pending := by
  simp [dropEnding]

@[simp] theorem lceAsk_frame (c : CtxId) (x : Ctx) (s : State) :
    (lceAsk c x s).clk = s.clk ∧ (lceAsk c x s).params = s.params ∧ (lceAsk c x s).scs = s.scs ∧
    (lceAsk c x s).pending = s.pending := by
  unfold lceAsk; dsimp only; split <;> simp

@[simp] theorem enterStep_frame (c : CtxId) (k : Nat) (x : Ctx) (s : State) :
    (enterStep c k x s).clk = s.clk ∧ (enterStep c k x s).params = s.params ∧ (enterStep c k x s).scs = s.scs ∧
    (enterStep c k x s).pending = s.pending := by
  simp [enterStep]

@[simp] theorem ctxFailure_frame (c : CtxId) (x : Ctx) (s : State) :
    (ctxFailure c x s).clk = s.clk ∧ (ctxFailure c x s).params = s.params ∧ (ctxFailure c x s).scs = s.scs ∧
    (ctxFailure c x s).pending = s.pending := by
  simp [ctxFailure]

@[simp] theorem startSettle_frame (c : CtxId) (x : Ctx) (s : State) :
    (startSettle c x s).clk = s.clk ∧ (startSettle c x s).clu = s.clu ∧ (startSettle c x s).params = s.params ∧
    (startSettle c x s).pbc = s.pbc ∧ (startSettle c x s).scs = s.scs ∧ (startSettle c x s).clr = s.clr ∧
    (startSettle c x s).hpl = s.hpl ∧ (startSettle c x s).pal = s.pal ∧ (startSettle c x s).frs = s.frs ∧
    (startSettle c x s).dpc = s.dpc ∧ (startSettle c x s).pending = s.pending := by
  simp [startSettle]

@[simp] theorem requestSample_frame (c : CtxId) (x : Ctx) (s : State) :
    (requestSample c x s).clk = s.clk ∧ (requestSample c x s).params = s.params ∧
    (requestSample c x s).scs = s.scs ∧ (requestSample c x s).pending = s.pending := by
  simp [requestSample]

@[simp] theorem takeBaseline_frame (c : CtxId) (x : Ctx) (samples : List Nat) (s : State) :
    (takeBaseline c x samples s).clk = s.clk ∧ (takeBaseline c x samples s).params = s.params ∧
    (takeBaseline c x samples s).scs = s.scs ∧ (takeBaseline c x samples s).pending = s.pending := by
  simp [takeBaseline]

@[simp] theorem takeStep_frame (c : CtxId) (x : Ctx) (samples : List Nat) (s : State) :
    (takeStep c x samples s).clk = s.clk ∧ (takeStep c x samples s).params = s.params ∧
    (takeStep c x samples s).scs = s.scs ∧ (takeStep c x samples s).pending = s.pending := by
  unfold takeStep; split <;> simp

@[simp] theorem sampleOutcome_frame (c : CtxId) (r : BusResult) (s : State) :
    (sampleOutcome c r s).clk = s.clk ∧ (sampleOutcome c r s).params = s.params ∧
    (sampleOutcome c r s).scs = s.scs ∧ (sampleOutcome c r s).pending = s.pending := by
  unfold sampleOutcome; (repeat' split) <;> simp

@[simp] theorem lampRelayEnd_frame (c : CtxId) (r : RelayEnd) (s : State) :
    (lampRelayEnd c r s).clk = s.clk ∧ (lampRelayEnd c r s).params = s.params ∧ (lampRelayEnd c r s).scs = s.scs ∧
    (lampRelayEnd c r s).pending = s.pending := by
  unfold lampRelayEnd; (repeat' split) <;> simp

@[simp] theorem settlePassed_frame (c : CtxId) (s : State) :
    (settlePassed c s).params = s.params ∧ (settlePassed c s).scs = s.scs ∧
    (settlePassed c s).pending = s.pending := by
  unfold settlePassed; (repeat' split) <;> simp

@[simp] theorem withCtx_clk (b : Bay) (f : CtxId → Ctx → State → State)
    (h : ∀ c y t, (f c y t).clk = t.clk) (s : State) : (withCtx b f s).clk = s.clk := by
  unfold withCtx; (repeat' split) <;> simp [h]

@[simp] theorem withCtx_params (b : Bay) (f : CtxId → Ctx → State → State)
    (h : ∀ c y t, (f c y t).params = t.params) (s : State) : (withCtx b f s).params = s.params := by
  unfold withCtx; (repeat' split) <;> simp [h]

@[simp] theorem withCtx_scs (b : Bay) (f : CtxId → Ctx → State → State)
    (h : ∀ c y t, (f c y t).scs = t.scs) (s : State) : (withCtx b f s).scs = s.scs := by
  unfold withCtx; (repeat' split) <;> simp [h]

@[simp] theorem withCtx_pending (b : Bay) (f : CtxId → Ctx → State → State)
    (h : ∀ c y t, (f c y t).pending = t.pending) (s : State) : (withCtx b f s).pending = s.pending := by
  unfold withCtx; (repeat' split) <;> simp [h]

@[simp] theorem lampReport_frame (b : Bay) (s : State) :
    (lampReport b s).clk = s.clk ∧ (lampReport b s).params = s.params ∧ (lampReport b s).scs = s.scs ∧
    (lampReport b s).pending = s.pending := by
  simp [lampReport]

@[simp] theorem lampSlotFree_frame (b : Bay) (s : State) :
    (lampSlotFree b s).clk = s.clk ∧ (lampSlotFree b s).params = s.params ∧ (lampSlotFree b s).scs = s.scs ∧
    (lampSlotFree b s).pending = s.pending := by
  simp [lampSlotFree]

@[simp] theorem lampLost_frame (b : Bay) (cause : AbortCause) (s : State) :
    (lampLost b cause s).clk = s.clk ∧ (lampLost b cause s).params = s.params ∧ (lampLost b cause s).scs = s.scs ∧
    (lampLost b cause s).pending = s.pending := by
  simp [lampLost]

@[simp] theorem lampStop_frame (s : State) :
    (lampStop s).clk = s.clk ∧ (lampStop s).params = s.params ∧ (lampStop s).scs = s.scs ∧
    (lampStop s).pending = s.pending := by
  simp [lampStop]

@[simp] theorem queueCheck_frame (b : Bay) (s : State) :
    (queueCheck b s).1.clk = s.clk ∧ (queueCheck b s).1.clu = s.clu ∧ (queueCheck b s).1.params = s.params ∧
    (queueCheck b s).1.scs = s.scs ∧ (queueCheck b s).1.clr = s.clr ∧ (queueCheck b s).1.hpl = s.hpl ∧
    (queueCheck b s).1.frs = s.frs ∧ (queueCheck b s).1.dpc = s.dpc ∧ (queueCheck b s).1.pending = s.pending := by
  unfold queueCheck; (repeat' split) <;> simp

@[simp] theorem cancelCheck_frame (b : Bay) (s : State) :
    (cancelCheck b s).1.clk = s.clk ∧ (cancelCheck b s).1.params = s.params ∧ (cancelCheck b s).1.scs = s.scs ∧
    (cancelCheck b s).1.pending = s.pending := by
  unfold cancelCheck; (repeat' split) <;> simp

@[simp] theorem lampDiscard_frame (b : Bay) (s : State) :
    (lampDiscard b s).clk = s.clk ∧ (lampDiscard b s).params = s.params ∧ (lampDiscard b s).scs = s.scs ∧
    (lampDiscard b s).clr = s.clr ∧ (lampDiscard b s).frs = s.frs ∧ (lampDiscard b s).pending = s.pending := by
  simp [lampDiscard]

@[simp] theorem setLampWaiver_frame (b : Bay) (s : State) :
    (setLampWaiver b s).clk = s.clk ∧ (setLampWaiver b s).params = s.params ∧ (setLampWaiver b s).scs = s.scs ∧
    (setLampWaiver b s).clr = s.clr ∧ (setLampWaiver b s).frs = s.frs ∧ (setLampWaiver b s).pending = s.pending := by
  simp [setLampWaiver]

/-! ### Identification (chapter 4) -/

@[simp] theorem classChanged_frame (b : Bay) (s : State) :
    (classChanged b s).clk = s.clk ∧ (classChanged b s).clu = s.clu ∧ (classChanged b s).params = s.params ∧
    (classChanged b s).scs = s.scs ∧ (classChanged b s).clr = s.clr ∧ (classChanged b s).lce = s.lce ∧
    (classChanged b s).frs = s.frs ∧ (classChanged b s).dpc = s.dpc ∧ (classChanged b s).pending = s.pending := by
  simp [classChanged]

@[simp] theorem classChangeFrom_frame (old : Nat) (b : Bay) (s : State) :
    (classChangeFrom old b s).clk = s.clk ∧ (classChangeFrom old b s).clu = s.clu ∧
    (classChangeFrom old b s).params = s.params ∧ (classChangeFrom old b s).scs = s.scs ∧
    (classChangeFrom old b s).clr = s.clr ∧ (classChangeFrom old b s).lce = s.lce ∧
    (classChangeFrom old b s).frs = s.frs ∧ (classChangeFrom old b s).dpc = s.dpc ∧
    (classChangeFrom old b s).pending = s.pending := by
  simp [classChangeFrom]

@[simp] theorem identFail_frame (b : Bay) (s : State) :
    (identFail b s).clk = s.clk ∧ (identFail b s).params = s.params ∧ (identFail b s).scs = s.scs ∧
    (identFail b s).lce = s.lce ∧ (identFail b s).frs = s.frs ∧ (identFail b s).dpc = s.dpc ∧
    (identFail b s).pending = s.pending := by
  simp [identFail]

@[simp] theorem askIdent_frame (b : Bay) (s : State) :
    (askIdent b s).clk = s.clk ∧ (askIdent b s).params = s.params ∧ (askIdent b s).scs = s.scs ∧
    (askIdent b s).lce = s.lce ∧ (askIdent b s).frs = s.frs ∧ (askIdent b s).dpc = s.dpc ∧
    (askIdent b s).pending = s.pending := by
  unfold askIdent; dsimp only; split <;> simp

@[simp] theorem identStart_frame (b : Bay) (s : State) :
    (identStart b s).clk = s.clk ∧ (identStart b s).params = s.params ∧ (identStart b s).scs = s.scs ∧
    (identStart b s).lce = s.lce ∧ (identStart b s).pending = s.pending := by
  simp [identStart]

@[simp] theorem newCoach_frame (b : Bay) (s : State) :
    (newCoach b s).clk = s.clk ∧ (newCoach b s).params = s.params ∧ (newCoach b s).scs = s.scs ∧
    (newCoach b s).pending = s.pending := by
  simp [newCoach]

@[simp] theorem identSuccess_frame (b : Bay) (cls : Nat) (fleet : List Byte) (s : State) :
    (identSuccess b cls fleet s).clk = s.clk ∧ (identSuccess b cls fleet s).params = s.params ∧
    (identSuccess b cls fleet s).scs = s.scs ∧ (identSuccess b cls fleet s).pending = s.pending := by
  simp [identSuccess]

@[simp] theorem identityClear_frame (b : Bay) (s : State) :
    (identityClear b s).clk = s.clk ∧ (identityClear b s).params = s.params ∧ (identityClear b s).scs = s.scs ∧
    (identityClear b s).lce = s.lce ∧ (identityClear b s).pending = s.pending := by
  simp [identityClear]

@[simp] theorem identOutcome_frame (b : Bay) (r : RelayEnd) (s : State) :
    (identOutcome b r s).clk = s.clk ∧ (identOutcome b r s).params = s.params ∧ (identOutcome b r s).scs = s.scs ∧
    (identOutcome b r s).pending = s.pending := by
  unfold identOutcome; split <;> simp

@[simp] theorem deliver_frame (b : Bay) (who : Requester) (r : RelayEnd) (s : State) :
    (deliver b who r s).clk = s.clk ∧ (deliver b who r s).params = s.params ∧ (deliver b who r s).scs = s.scs ∧
    (deliver b who r s).pending = s.pending := by
  unfold deliver; (repeat' split) <;> simp

@[simp] theorem relayFinish_frame (b : Bay) (r : RelayEnd) (s : State) :
    (relayFinish b r s).clk = s.clk ∧ (relayFinish b r s).params = s.params ∧ (relayFinish b r s).scs = s.scs ∧
    (relayFinish b r s).pending = s.pending := by
  unfold relayFinish; dsimp only; split <;> simp

@[simp] theorem relayLost_frame (b : Bay) (r : RelayEnd) (s : State) :
    (relayLost b r s).clk = s.clk ∧ (relayLost b r s).params = s.params ∧ (relayLost b r s).scs = s.scs ∧
    (relayLost b r s).pending = s.pending := by
  unfold relayLost; dsimp only; (repeat' split) <;> simp

@[simp] theorem identSlotFree_frame (b : Bay) (s : State) :
    (identSlotFree b s).clk = s.clk ∧ (identSlotFree b s).params = s.params ∧ (identSlotFree b s).scs = s.scs ∧
    (identSlotFree b s).lce = s.lce ∧ (identSlotFree b s).frs = s.frs ∧ (identSlotFree b s).dpc = s.dpc ∧
    (identSlotFree b s).pending = s.pending := by
  simp [identSlotFree]

@[simp] theorem slotFree_frame (b : Bay) (old s : State) :
    (slotFree b old s).clk = s.clk ∧ (slotFree b old s).params = s.params ∧ (slotFree b old s).scs = s.scs ∧
    (slotFree b old s).pending = s.pending := by
  simp [slotFree]

@[simp] theorem slotFreeAll_frame (old s : State) :
    (slotFreeAll old s).clk = s.clk ∧ (slotFreeAll old s).params = s.params ∧ (slotFreeAll old s).scs = s.scs ∧
    (slotFreeAll old s).pending = s.pending := by
  simp [slotFreeAll]

@[simp] theorem nextPoll_frame (b : Bay) (s : State) :
    (nextPoll b s).clk = s.clk ∧ (nextPoll b s).clu = s.clu ∧ (nextPoll b s).params = s.params ∧
    (nextPoll b s).pbc = s.pbc ∧ (nextPoll b s).scs = s.scs ∧ (nextPoll b s).hpl = s.hpl ∧
    (nextPoll b s).pal = s.pal ∧ (nextPoll b s).lce = s.lce ∧ (nextPoll b s).frs = s.frs ∧
    (nextPoll b s).dpc = s.dpc ∧ (nextPoll b s).pending = s.pending := by
  simp [nextPoll]

@[simp] theorem abandonedEnd_frame (b : Bay) (s : State) :
    (abandonedEnd b s).clk = s.clk ∧ (abandonedEnd b s).params = s.params ∧ (abandonedEnd b s).scs = s.scs ∧
    (abandonedEnd b s).pending = s.pending := by
  unfold abandonedEnd; dsimp only; (repeat' split) <;> simp

@[simp] theorem giveUp_frame (b : Bay) (s : State) :
    (giveUp b s).clk = s.clk ∧ (giveUp b s).params = s.params ∧ (giveUp b s).scs = s.scs ∧
    (giveUp b s).pending = s.pending := by
  unfold giveUp
  cases e : clearingFetch b s with
  | none => simp
  | some t => simp [clearingFetch_frame _ _ e]

@[simp] theorem sendOutcome_frame (b : Bay) (r : BusResult) (s : State) :
    (sendOutcome b r s).clk = s.clk ∧ (sendOutcome b r s).params = s.params ∧ (sendOutcome b r s).scs = s.scs ∧
    (sendOutcome b r s).pending = s.pending := by
  unfold sendOutcome; split <;> simp

@[simp] theorem pollOutcome_frame (b : Bay) (r : BusResult) (s : State) :
    (pollOutcome b r s).clk = s.clk ∧ (pollOutcome b r s).params = s.params ∧ (pollOutcome b r s).scs = s.scs ∧
    (pollOutcome b r s).pending = s.pending := by
  unfold pollOutcome; dsimp only
  (repeat' split) <;> try simp
  next p _ _ _ _ =>
    cases e : requestRelay b (.relayFetch p.replyLength)
        (updSlot b (fun t => { t with state := .fetching, pollDue := none }) s) with
    | none => simp
    | some t => simp [requestRelay_frame _ _ _ e]

@[simp] theorem heldFetch_frame (b : Bay) (s : State) :
    (heldFetch b s).clk = s.clk ∧ (heldFetch b s).params = s.params ∧ (heldFetch b s).scs = s.scs ∧
    (heldFetch b s).pending = s.pending := by
  unfold heldFetch; dsimp only
  cases e : requestRelay b (.relayFetch 0) (updSlot b (fun t => { t with pollDiscard := false }) s) with
  | none => simp
  | some t => simp [requestRelay_frame _ _ _ e]

@[simp] theorem fetchOutcome_frame (b : Bay) (r : BusResult) (s : State) :
    (fetchOutcome b r s).clk = s.clk ∧ (fetchOutcome b r s).params = s.params ∧ (fetchOutcome b r s).scs = s.scs ∧
    (fetchOutcome b r s).pending = s.pending := by
  unfold fetchOutcome; dsimp only; (repeat' split) <;> simp

@[simp] theorem relayOutcome_frame (b : Bay) (o : Order) (r : BusResult) (s : State) :
    (relayOutcome b o r s).clk = s.clk ∧ (relayOutcome b o r s).params = s.params ∧
    (relayOutcome b o r s).scs = s.scs ∧ (relayOutcome b o r s).pending = s.pending := by
  unfold relayOutcome; dsimp only; (repeat' split) <;> simp

@[simp] theorem requestPoll_frame (b : Bay) (s : State) :
    (requestPoll b s).params = s.params ∧ (requestPoll b s).scs = s.scs ∧ (requestPoll b s).pending = s.pending := by
  unfold requestPoll; dsimp only; split
  · next due _ _ =>
    cases e : requestRelay b (.statusRead true) (updSlot b (fun t => { t with pollDue := none }) (elapseTo due s)) with
    | none => simp
    | some t => simp [requestRelay_frame _ _ _ e]
  · simp

@[simp] theorem relayLimit_frame (b : Bay) (s : State) :
    (relayLimit b s).params = s.params ∧ (relayLimit b s).scs = s.scs ∧ (relayLimit b s).pending = s.pending := by
  unfold relayLimit; dsimp only; split <;> simp

@[simp] theorem clrPlug_frame (b : Bay) (plugged : Bool) (s : State) :
    (clrPlug b plugged s).clk = s.clk ∧ (clrPlug b plugged s).params = s.params ∧
    (clrPlug b plugged s).scs = s.scs ∧ (clrPlug b plugged s).pending = s.pending := by
  simp [clrPlug]

@[simp] theorem becomeEmpty_frame (b : Bay) (s : State) :
    (becomeEmpty b s).clk = s.clk ∧ (becomeEmpty b s).params = s.params ∧ (becomeEmpty b s).scs = s.scs ∧
    (becomeEmpty b s).pending = s.pending := by
  simp [becomeEmpty]

@[simp] theorem presenceEvent_frame (b : Bay) (occupied : Bool) (s : State) :
    (presenceEvent b occupied s).clk = s.clk ∧ (presenceEvent b occupied s).params = s.params ∧
    (presenceEvent b occupied s).scs = s.scs ∧ (presenceEvent b occupied s).pending = s.pending := by
  simp [presenceEvent]

@[simp] theorem plugEvent_frame (b : Bay) (plugged : Bool) (s : State) :
    (plugEvent b plugged s).clk = s.clk ∧ (plugEvent b plugged s).params = s.params ∧
    (plugEvent b plugged s).scs = s.scs ∧ (plugEvent b plugged s).pending = s.pending := by
  simp [plugEvent]

/-! ### Outcomes of bus transactions (chapters 2 to 4) -/

@[simp] theorem offlineEvent_frame (b : Bay) (s : State) :
    (offlineEvent b s).clk = s.clk ∧ (offlineEvent b s).params = s.params ∧ (offlineEvent b s).scs = s.scs ∧
    (offlineEvent b s).pending = s.pending := by
  simp [offlineEvent]

@[simp] theorem healthDecision_frame (b : Bay) (s : State) :
    (healthDecision b s).clk = s.clk ∧ (healthDecision b s).params = s.params ∧ (healthDecision b s).scs = s.scs ∧
    (healthDecision b s).clr = s.clr ∧ (healthDecision b s).lce = s.lce ∧ (healthDecision b s).frs = s.frs ∧
    (healthDecision b s).pending = s.pending := by
  simp [healthDecision]

@[simp] theorem pedestalChanged_frame (b : Bay) (old : PedState) (s : State) :
    (pedestalChanged b old s).clk = s.clk ∧ (pedestalChanged b old s).params = s.params ∧
    (pedestalChanged b old s).scs = s.scs ∧ (pedestalChanged b old s).pending = s.pending := by
  simp [pedestalChanged]

@[simp] theorem setHealth_frame (b : Bay) (h : Health) (s : State) :
    (setHealth b h s).clk = s.clk ∧ (setHealth b h s).params = s.params ∧ (setHealth b h s).scs = s.scs ∧
    (setHealth b h s).pending = s.pending := by
  simp [setHealth]

@[simp] theorem allOffline_frame (s : State) :
    (allOffline s).clk = s.clk ∧ (allOffline s).params = s.params ∧ (allOffline s).scs = s.scs ∧
    (allOffline s).pending = s.pending := by
  simp [allOffline]

@[simp] theorem requestScan_frame (e : ScanEntry) (s : State) :
    (requestScan e s).clk = s.clk ∧ (requestScan e s).clu = s.clu ∧ (requestScan e s).params = s.params ∧
    (requestScan e s).scs = s.scs ∧ (requestScan e s).clr = s.clr ∧ (requestScan e s).hpl = s.hpl ∧
    (requestScan e s).pal = s.pal ∧ (requestScan e s).lce = s.lce ∧ (requestScan e s).frs = s.frs ∧
    (requestScan e s).dpc = s.dpc ∧ (requestScan e s).pending = s.pending := by
  simp [requestScan]

@[simp] theorem beginRound_frame (s : State) :
    (beginRound s).clk = s.clk ∧ (beginRound s).clu = s.clu ∧ (beginRound s).params = s.params ∧
    (beginRound s).clr = s.clr ∧ (beginRound s).hpl = s.hpl ∧ (beginRound s).pal = s.pal ∧
    (beginRound s).lce = s.lce ∧ (beginRound s).frs = s.frs ∧ (beginRound s).dpc = s.dpc ∧
    (beginRound s).pending = s.pending := by
  unfold beginRound; split <;> simp

@[simp] theorem paceRound_frame (s : State) :
    (paceRound s).clk = s.clk ∧ (paceRound s).clu = s.clu ∧ (paceRound s).params = s.params ∧
    (paceRound s).clr = s.clr ∧ (paceRound s).hpl = s.hpl ∧ (paceRound s).pal = s.pal ∧
    (paceRound s).lce = s.lce ∧ (paceRound s).frs = s.frs ∧ (paceRound s).dpc = s.dpc ∧
    (paceRound s).pending = s.pending := by
  simp [paceRound]

@[simp] theorem completeRound_frame (s : State) :
    (completeRound s).clk = s.clk ∧ (completeRound s).params = s.params ∧ (completeRound s).clr = s.clr ∧
    (completeRound s).hpl = s.hpl ∧ (completeRound s).lce = s.lce ∧ (completeRound s).frs = s.frs ∧
    (completeRound s).dpc = s.dpc ∧ (completeRound s).pending = s.pending := by
  simp [completeRound]

@[simp] theorem lateRound_frame (s : State) :
    (lateRound s).clk = s.clk ∧ (lateRound s).clu = s.clu ∧ (lateRound s).params = s.params ∧
    (lateRound s).pbc = s.pbc ∧ (lateRound s).clr = s.clr ∧ (lateRound s).hpl = s.hpl ∧
    (lateRound s).pal = s.pal ∧ (lateRound s).lce = s.lce ∧ (lateRound s).frs = s.frs ∧
    (lateRound s).dpc = s.dpc ∧ (lateRound s).pending = s.pending := by
  simp [lateRound]

@[simp] theorem advanceScan_frame (s : State) :
    (advanceScan s).clk = s.clk ∧ (advanceScan s).params = s.params ∧ (advanceScan s).clr = s.clr ∧
    (advanceScan s).hpl = s.hpl ∧ (advanceScan s).lce = s.lce ∧ (advanceScan s).frs = s.frs ∧
    (advanceScan s).dpc = s.dpc ∧ (advanceScan s).pending = s.pending := by
  unfold advanceScan; dsimp only; (repeat' split) <;> simp

@[simp] theorem abandonRound_frame (s : State) :
    (abandonRound s).clk = s.clk ∧ (abandonRound s).clu = s.clu ∧ (abandonRound s).params = s.params ∧
    (abandonRound s).clr = s.clr ∧ (abandonRound s).hpl = s.hpl ∧ (abandonRound s).pal = s.pal ∧
    (abandonRound s).lce = s.lce ∧ (abandonRound s).frs = s.frs ∧ (abandonRound s).dpc = s.dpc ∧
    (abandonRound s).pending = s.pending := by
  unfold abandonRound; split <;> simp

@[simp] theorem serviceScan_frame (s : State) :
    (serviceScan s).clk = s.clk ∧ (serviceScan s).clu = s.clu ∧ (serviceScan s).params = s.params ∧
    (serviceScan s).clr = s.clr ∧ (serviceScan s).hpl = s.hpl ∧ (serviceScan s).pal = s.pal ∧
    (serviceScan s).lce = s.lce ∧ (serviceScan s).frs = s.frs ∧ (serviceScan s).dpc = s.dpc ∧
    (serviceScan s).pending = s.pending := by
  simp [serviceScan]

@[simp] theorem reportEvent_frame (b : Bay) (s : State) :
    (reportEvent b s).clk = s.clk ∧ (reportEvent b s).params = s.params ∧ (reportEvent b s).scs = s.scs ∧
    (reportEvent b s).pending = s.pending := by
  simp [reportEvent]

@[simp] theorem takeReport_frame (b : Bay) (p : StatusReport) (s : State) :
    (takeReport b p s).clk = s.clk ∧ (takeReport b p s).params = s.params ∧
    (takeReport b p s).pending = s.pending := by
  simp [takeReport]

@[simp] theorem scanOutcome_frame (b : Bay) (r : BusResult) (s : State) :
    (scanOutcome b r s).clk = s.clk ∧ (scanOutcome b r s).params = s.params ∧
    (scanOutcome b r s).pending = s.pending := by
  unfold scanOutcome; (repeat' split) <;> simp

@[simp] theorem outputReport_frame (b : Bay) (m : Marks) (sent : Image) (r : BusResult) (s : State) :
    (outputReport b m sent r s).clk = s.clk ∧ (outputReport b m sent r s).params = s.params ∧
    (outputReport b m sent r s).scs = s.scs ∧ (outputReport b m sent r s).clr = s.clr ∧
    (outputReport b m sent r s).lce = s.lce ∧ (outputReport b m sent r s).frs = s.frs ∧
    (outputReport b m sent r s).pending = s.pending := by
  simp [outputReport]

@[simp] theorem deliverOutcome_frame (t : Trans) (b : Bay) (r : BusResult) (s : State) :
    (deliverOutcome t b r s).clk = s.clk ∧ (deliverOutcome t b r s).params = s.params ∧
    (deliverOutcome t b r s).pending = s.pending := by
  unfold deliverOutcome; split <;> simp

@[simp] theorem acknowledged_frame (t : Trans) (b : Bay) (s : State) :
    (acknowledged t b s).clk = s.clk ∧ (acknowledged t b s).clu = s.clu ∧ (acknowledged t b s).params = s.params ∧
    (acknowledged t b s).scs = s.scs ∧ (acknowledged t b s).clr = s.clr ∧ (acknowledged t b s).hpl = s.hpl ∧
    (acknowledged t b s).pal = s.pal ∧ (acknowledged t b s).lce = s.lce ∧ (acknowledged t b s).frs = s.frs ∧
    (acknowledged t b s).dpc = s.dpc ∧ (acknowledged t b s).pending = s.pending := by
  simp [acknowledged]

@[simp] theorem lineStuck_frame (s : State) :
    (lineStuck s).clk = s.clk ∧ (lineStuck s).clu = s.clu ∧ (lineStuck s).params = s.params ∧
    (lineStuck s).scs = s.scs ∧ (lineStuck s).clr = s.clr ∧ (lineStuck s).hpl = s.hpl ∧
    (lineStuck s).pal = s.pal ∧ (lineStuck s).lce = s.lce ∧ (lineStuck s).frs = s.frs ∧
    (lineStuck s).dpc = s.dpc ∧ (lineStuck s).pending = s.pending := by
  simp [lineStuck]

@[simp] theorem endTransaction_frame (t : Trans) (b : Bay) (r : BusResult) (s : State) :
    (endTransaction t b r s).clk = s.clk ∧ (endTransaction t b r s).params = s.params ∧
    (endTransaction t b r s).pending = s.pending := by
  simp [endTransaction]

@[simp] theorem attemptEnd_frame (a : Attempt) (s : State) :
    (attemptEnd a s).clk = s.clk ∧ (attemptEnd a s).params = s.params ∧ (attemptEnd a s).pending = s.pending := by
  unfold attemptEnd; (repeat' split) <;> simp

@[simp] theorem runAttempts_frame (xs : List Attempt) (s : State) :
    (runAttempts xs s).clk = s.clk ∧ (runAttempts xs s).params = s.params ∧
    (runAttempts xs s).pending = s.pending := by
  induction xs generalizing s with
  | nil => simp [runAttempts]
  | cons x xs ih => unfold runAttempts; dsimp only; split <;> simp [ih]

@[simp] theorem broadcastEnd_frame (s : State) :
    (broadcastEnd s).clk = s.clk ∧ (broadcastEnd s).clu = s.clu ∧ (broadcastEnd s).params = s.params ∧
    (broadcastEnd s).scs = s.scs ∧ (broadcastEnd s).clr = s.clr ∧ (broadcastEnd s).hpl = s.hpl ∧
    (broadcastEnd s).pal = s.pal ∧ (broadcastEnd s).lce = s.lce ∧ (broadcastEnd s).frs = s.frs ∧
    (broadcastEnd s).dpc = s.dpc ∧ (broadcastEnd s).pending = s.pending := by
  simp [broadcastEnd]

@[simp] theorem recheckLine_frame (high : Bool) (s : State) :
    (recheckLine high s).clu = s.clu ∧ (recheckLine high s).params = s.params ∧ (recheckLine high s).scs = s.scs ∧
    (recheckLine high s).clr = s.clr ∧ (recheckLine high s).hpl = s.hpl ∧ (recheckLine high s).pal = s.pal ∧
    (recheckLine high s).lce = s.lce ∧ (recheckLine high s).frs = s.frs ∧ (recheckLine high s).dpc = s.dpc ∧
    (recheckLine high s).pending = s.pending := by
  unfold recheckLine; split <;> simp

@[simp] theorem stuckTwoSeconds_frame (s : State) :
    (stuckTwoSeconds s).clk = s.clk ∧ (stuckTwoSeconds s).params = s.params ∧ (stuckTwoSeconds s).scs = s.scs ∧
    (stuckTwoSeconds s).pending = s.pending := by
  unfold stuckTwoSeconds; split <;> simp

end Sys2Proof.Machine
end

