-- ==== Sys2Proof/Laws/Effects.lean ====
section
/-! SUPPORT. What a shared operation can do, said once for each: a proof about a caller cites these and does not unfold
the operation. -/

namespace Sys2Proof.Machine

/-! ### Sets of holds and of notice kinds -/

theorem hasHold_addHold (h : HoldSet) (r q : HoldReason) :
    hasHold (addHold h r) q = (hasHold h q || decide (q = r)) := by
  cases r <;> cases q <;> simp [hasHold, addHold, HoldReason.code]

theorem hasHold_dropHold (h : HoldSet) (r q : HoldReason) :
    hasHold (dropHold h r) q = (hasHold h q && decide (q ≠ r)) := by
  cases r <;> cases q <;> simp [hasHold, dropHold, HoldReason.code]

theorem hasKind_addKind (m : KindSet) (k j : NoticeKind) :
    hasKind (addKind m k) j = (hasKind m j || decide (j = k)) := by
  cases k <;> cases j <;> simp [hasKind, addKind, NoticeKind.code]

theorem hasKind_dropKind (m : KindSet) (k j : NoticeKind) :
    hasKind (dropKind m k) j = (hasKind m j && decide (j ≠ k)) := by
  cases k <;> cases j <;> simp [hasKind, dropKind, NoticeKind.code]

/-- Raising a bay kind: nothing when masked, and else that bay's kind alone joins. -/
theorem raiseBay_pending (k : NoticeKind) (b a : Bay) (s : State) :
    (raiseBay k b s).clu.pending[a] =
      if hasKind s.clu.mask k = true ∧ a = b then addKind s.clu.pending[a] k else s.clu.pending[a] := by
  unfold raiseBay
  by_cases m : hasKind s.clu.mask k = true
  · by_cases e : a = b <;> simp [m, e]
  · simp [m]

/-! ### The output-write queue -/

/-- The bays of the queue: an old entry keeps its place, and a new bay joins the tail. -/
theorem queueWrite_bays (b : Bay) (m : Marks) (q : List OutEntry) :
    (queueWrite b m q).map (·.bay) = if b ∈ q.map (·.bay) then q.map (·.bay) else q.map (·.bay) ++ [b] := by
  have e : (q.any (·.bay == b)) = decide (b ∈ q.map (·.bay)) := by
    rw [Bool.eq_iff_iff]; simp
  unfold queueWrite; rw [e]
  by_cases h : b ∈ q.map (·.bay)
  · simp only [h, decide_true, if_true, List.map_map]
    exact List.map_congr_left fun x _ => by simp only [Function.comp_apply]; split <;> rfl
  · simp [h]

/-- No bay comes to wait twice in the output-write queue. -/
theorem queueWrite_nodup (b : Bay) (m : Marks) (q : List OutEntry) (h : (q.map (·.bay)).Nodup) :
    ((queueWrite b m q).map (·.bay)).Nodup := by
  rw [queueWrite_bays]; split
  · exact h
  · next n => exact List.nodup_append.2 ⟨h, by simp, fun x hx y hy => by
      rw [List.mem_singleton] at hy; subst hy; exact fun e => n (e ▸ hx)⟩

theorem outputWrite_images (b : Bay) (f : Image → Image) (m : Marks) (s : State) :
    (outputWrite b f m s).pbc.images = upd s.pbc.images b f := rfl

theorem outputWrite_outQ (b : Bay) (f : Image → Image) (m : Marks) (s : State) :
    (outputWrite b f m s).pbc.outQ = if isOffline b s then s.pbc.outQ else queueWrite b m s.pbc.outQ := rfl

/-! ### The class queues and the arbiter -/

theorem enqueue_waits (c : BusClass) (who : Who) (b : Bay) (o : Order) (s : State) :
    isWaiting who (enqueue c who b o s) = true := by
  cases c <;> simp [isWaiting, enqueue]

theorem withdraw_waits (who : Who) (s : State) : isWaiting who (withdraw who s) = false := by
  simp [isWaiting, withdraw]

theorem withdraw_onBus (who other : Who) (s : State) : isOnBus other (withdraw who s) = isOnBus other s := rfl

theorem arbitrate_busy (s : State) (h : s.pbc.current.isSome = true) : arbitrate s = s := by
  simp [arbitrate, h]

/-- With the line stuck the arbiter starts nothing but a broadcast (R35). -/
theorem arbitrate_stuck (s : State) (a n : Nat) (t : Bool) (h : s.pbc.line = .stuck a n t)
    (h' : s.pbc.broadcast = false) : arbitrate s = s := by
  unfold arbitrate; simp [h, h']

theorem fitBytes_length (n : Nat) (bs : List Byte) : (fitBytes n bs).length = n := by
  simp [fitBytes]

/-! ### Relays -/

theorem requestRelay_online (b : Bay) (o : Order) (s : State) (h : isOffline b s = false) :
    requestRelay b o s = some (enqueue (s.clr.slots[b].busClass.getD .three) (.relay b) b o s) := by
  simp [requestRelay, h]

theorem requestRelay_offline (b : Bay) (o : Order) (s : State) (h : isOffline b s = true) :
    requestRelay b o s = none := by
  simp [requestRelay, h]

/-- A relay asked for is refused for its argument or as busy, taken with its request made or still to make, or ended at once
by OFFLINE. -/
theorem relayAsk_cases (b : Bay) (who : Requester) (m : CoachMsg) (s : State) :
    let t := updSlot b (fun t => { t with
      state := .sending, requester := some who, message := some m, busClass := some who.busClass }) s
    (m.inRange = false ∧ relayAsk b who m s = (s, .badValue)) ∨
    (s.clr.slots[b].state ≠ .idle ∧
      relayAsk b who m s = (updSlot b (fun t => { t with waiting := t.waiting.add who }) s, .busy)) ∨
    (s.clr.slots[b].state = .idle ∧ s.clr.slots[b].abandoned = true ∧ relayAsk b who m s = (t, .taken)) ∨
    (s.clr.slots[b].state = .idle ∧ s.clr.slots[b].abandoned = false ∧ isOffline b s = true ∧
      relayAsk b who m s = (slotEnd b t, .failed)) ∨
    (s.clr.slots[b].state = .idle ∧ s.clr.slots[b].abandoned = false ∧ isOffline b s = false ∧
      relayAsk b who m s = (enqueue who.busClass (.relay b) b (.relaySend m.bytes) t, .taken)) := by
  intro t
  cases r : m.inRange
  · exact .inl ⟨rfl, by simp [relayAsk, r]⟩
  refine .inr ?_
  by_cases i : s.clr.slots[b].state = .idle
  · have o : isOffline b t = isOffline b s := rfl
    have a : t.clr.slots[b].abandoned = s.clr.slots[b].abandoned := by simp [t]
    have c : t.clr.slots[b].busClass.getD .three = who.busClass := by simp [t]
    have g : (t.clr.slots[b].message.map CoachMsg.bytes).getD [] = m.bytes := by simp [t]
    have e : relayAsk b who m s = if t.clr.slots[b].abandoned then (t, .taken) else requestSend b t := by
      unfold relayAsk; rw [if_neg (by simp [r]), if_neg (by simpa using i)]
    rw [a] at e
    cases k : s.clr.slots[b].abandoned
    · rw [k] at e
      cases f : isOffline b s
      · refine .inr (.inr (.inr ⟨i, rfl, rfl, ?_⟩))
        rw [e, if_neg (by decide), requestSend, requestRelay_online _ _ _ (o.trans f), c, g]
      · refine .inr (.inr (.inl ⟨i, rfl, rfl, ?_⟩))
        rw [e, if_neg (by decide), requestSend, requestRelay_offline _ _ _ (o.trans f)]
    · rw [k] at e
      exact .inr (.inl ⟨i, rfl, by rw [e]; rfl⟩)
  · exact .inl ⟨i, by unfold relayAsk; rw [if_neg (by simp [r]), if_pos i]⟩

/-! ### Grants -/

/-- To release a grant: an issued or closed one is opened, one not yet issued leaves, and the others stay. -/
theorem releaseGrant_cases (g : Grant) (s : State) :
    (releaseGrant g s = s ∧ g.state.live = false) ∨
    (releaseGrant g s = grantLeaves g.bay s ∧ g.state = .pendingClose ∧ g.issued = false) ∨
    (releaseGrant g s = contactorWrite g.bay false (updGrant g.bay (Grant.toReleasing s.clk.tod) s) ∧
      g.state.live = true) := by
  unfold releaseGrant
  cases e : g.state <;> cases i : g.issued <;> simp [GrantState.live]

/-- The closing queue: nothing happens, or its head is issued. -/
theorem examineClosing_cases (s : State) :
    examineClosing s = s ∨
    ∃ b q, s.pal.closing = b :: q ∧ s.pal.outstanding = none ∧
      examineClosing s =
        let t := updGrant b (fun g => { g with issued := true }) s
        contactorWrite b true { t with pal := { t.pal with outstanding := some b } } := by
  unfold examineClosing
  cases e : s.pal.closing with
  | nil => exact .inl (by simp)
  | cons b q =>
    cases o : s.pal.outstanding with
    | some a => exact .inl (by simp)
    | none =>
      dsimp only
      (repeat' split) <;> first | exact .inr ⟨b, q, rfl, rfl, rfl⟩ | exact .inl rfl

theorem admitBay_bays (b : Bay) (p : Nat) (s : State) :
    (admitBay b p s).pal.grants.map (·.bay) = s.pal.grants.map (·.bay) ++ [b] ∧
    (admitBay b p s).pal.closing = s.pal.closing ++ [b] := by
  simp [admitBay]

theorem updGrant_bays (b : Bay) (f : Grant → Grant) (s : State) (h : ∀ g, (f g).bay = g.bay) :
    (updGrant b f s).pal.grants.map (·.bay) = s.pal.grants.map (·.bay) := by
  simp only [updGrant, List.map_map]
  exact List.map_congr_left fun x _ => by simp only [Function.comp_apply]; split <;> simp [h]

theorem grantLeaves_gone (b : Bay) (s : State) : grantOf b (grantLeaves b s) = none := by
  simp [grantOf, grantLeaves]

/-! ### LAMP records -/

/-- R151: a LAMP record's delta is at most 4094, whatever the free value is. -/
theorem recordDelta_le (d : Nat) : recordDelta d ≤ 4094 := by
  unfold recordDelta; split
  · assumption
  · exact Nat.le_of_lt_succ (Config.wideDelta d).isLt

/-- A delta in the range of R151 is recorded as it is. -/
theorem recordDelta_self (d : Nat) (h : d ≤ 4094) : recordDelta d = d := if_pos h

/-! ### Freed slots -/

/-- A slot that has not become IDLE since `old` sends no slot free event. -/
theorem slotFree_self (b : Bay) (old s : State) (h : s.clr.slots[b].ended = old.clr.slots[b].ended) :
    slotFree b old s = s := by
  simp only [slotFree, h, ne_eq, not_true_eq_false, if_false]

/-- An event that freed no slot sends no slot free event. -/
theorem slotFreeAll_self (old s : State) (h : ∀ b : Bay, s.clr.slots[b].ended = old.clr.slots[b].ended) :
    slotFreeAll old s = s := by
  have turn (l : List Bay) : l.foldl (fun s b => slotFree b old s) s = s := by
    induction l with
    | nil => rfl
    | cons b l ih => rw [List.foldl_cons, slotFree_self b old s (h b), ih]
  exact turn allBays

/-- A slot that ends has become IDLE once more, and keeps who waits for it. -/
theorem slotEnd_slot (b : Bay) (s : State) :
    (slotEnd b s).clr.slots[b] = { Slot.atReset with
      abandoned := s.clr.slots[b].abandoned, waiting := s.clr.slots[b].waiting, ended := s.clr.slots[b].ended + 1 } := by
  simp [slotEnd, updSlot]

/-! ### The clearance machine -/

/-- What entering a state does to the bay itself. -/
theorem enterState_bay (b : Bay) (st : ClearState) (s : State) :
    (enterState b st s).dpc.bays[b] = { s.dpc.bays[b] with
      state := st, check := none, rewrite := s.dpc.bays[b].rewrite && decide (st.aspect = s.dpc.bays[b].state.aspect)
      released := releasedIn st s.dpc.bays[b].released } := by
  simp [enterState, aspectWrite, outputWrite, updDpc]

/-- Every transition a decision can take (R175 to R184). -/
theorem decideStep_cases (b : Bay) (s t : State) (h : decideStep b s = some t) :
    (s.dpc.bays[b].state = .standing ∧ readyConditions b s = true ∧ t = raiseBay .ready b (enterState b .ready s)) ∨
    (s.dpc.bays[b].state = .ready ∧ readyConditions b s = false ∧ t = enterState b .standing s) ∨
    (s.dpc.bays[b].state = .ready ∧ readyConditions b s = true ∧ s.scs.reports[b].plugged = false ∧
      t = enterReleasing b s) ∨
    (s.dpc.bays[b].state = .releasing ∧ (s.scs.reports[b].plugged = true ∨ stillCalled b s = false) ∧
      t = enterState b .standing s) ∨
    (s.dpc.bays[b].state = .releasing ∧ s.scs.reports[b].plugged = false ∧ stillCalled b s = true ∧
      pathClear b s = true ∧ s.dpc.readingReleased = true ∧ t = enterCleared b s) ∨
    (s.dpc.bays[b].state = .cleared ∧ s.scs.reports[b].plugged = true ∧ t = replug b s) ∨
    (s.dpc.bays[b].state = .held ∧ hasHold s.dpc.bays[b].holds .fault = true ∧ faultCondition b s = true ∧
      t = updDpc b (fun d => { d with holds := dropHold d.holds .fault }) s) ∨
    (s.dpc.bays[b].state = .held ∧ s.dpc.bays[b].holds = 0 ∧ t = holdReturn b s) := by
  simp only [decideStep] at h
  cases e : s.dpc.bays[b].state <;> simp only [e] at h
  · cases h
  · split at h <;> simp_all
  · split at h
    · simp_all
    · split at h <;> simp_all
  · split at h
    · simp_all
    · split at h <;> simp_all
  · split at h <;> simp_all
  · split at h
    · simp_all
    · split at h <;> simp_all

end Sys2Proof.Machine
end

