-- ==== Sys2Proof/Laws/PerInstr.lean ====
section
/-! SUPPORT. A fact about every command, one lemma for each constructor. -/

namespace Sys2Proof.Laws

/-- R196, R197: a well-formed request command names a request that the receive queue can hold: its TYPE lies in 0x01 to
0x3F, its TAG is not 0, and its payload has at most 248 bytes. -/
def Shape.Statement (i : Instr) : Prop :=
  i.wellFormed = true → ∀ r ∈ i.request,
    1 ≤ r.1.toNat ∧ r.1.toNat ≤ 0x3F ∧ r.2.1 ≠ 0 ∧ r.2.2.length ≤ 248

/-- What `requestOk` says. -/
theorem requestOk_iff (tag : Byte) (payload : List Byte) :
    requestOk tag payload = true ↔ tag ≠ 0 ∧ payload.length ≤ 248 := by
  simp [requestOk]

theorem Shape.reset (link1 link0 bus1 bus0 : Bool) : Shape.Statement (.reset link1 link0 bus1 bus0) :=
  fun _ _ h => by cases h
theorem Shape.secondTick : Shape.Statement .secondTick :=
  fun _ _ h => by cases h
theorem Shape.minuteTick : Shape.Statement .minuteTick :=
  fun _ _ h => by cases h
theorem Shape.frameReceived (chars : List Byte) : Shape.Statement (.frameReceived chars) :=
  fun _ _ h => by cases h
theorem Shape.interCharacterTimeout : Shape.Statement .interCharacterTimeout :=
  fun _ _ h => by cases h
theorem Shape.brokenCharacter : Shape.Statement .brokenCharacter :=
  fun _ _ h => by cases h
theorem Shape.frameSent : Shape.Statement .frameSent :=
  fun _ _ h => by cases h
theorem Shape.badTypeRequest (type tag : Byte) (payload : List Byte) : Shape.Statement (.badTypeRequest type tag payload) :=
  fun _ _ h => by cases h
theorem Shape.start (tag : Byte) (payload : List Byte) : Shape.Statement (.start tag payload) :=
  fun h => by simpa [Instr.request] using (requestOk_iff tag payload).1 h
theorem Shape.stop (tag : Byte) (payload : List Byte) : Shape.Statement (.stop tag payload) :=
  fun h => by simpa [Instr.request] using (requestOk_iff tag payload).1 h
theorem Shape.configure (tag : Byte) (payload : List Byte) : Shape.Statement (.configure tag payload) :=
  fun h => by simpa [Instr.request] using (requestOk_iff tag payload).1 h
theorem Shape.setClock (tag : Byte) (payload : List Byte) : Shape.Statement (.setClock tag payload) :=
  fun h => by simpa [Instr.request] using (requestOk_iff tag payload).1 h
theorem Shape.setLanes (tag : Byte) (payload : List Byte) : Shape.Statement (.setLanes tag payload) :=
  fun h => by simpa [Instr.request] using (requestOk_iff tag payload).1 h
theorem Shape.setBayService (tag : Byte) (payload : List Byte) : Shape.Statement (.setBayService tag payload) :=
  fun h => by simpa [Instr.request] using (requestOk_iff tag payload).1 h
theorem Shape.setClass (tag : Byte) (payload : List Byte) : Shape.Statement (.setClass tag payload) :=
  fun h => by simpa [Instr.request] using (requestOk_iff tag payload).1 h
theorem Shape.setLampPlan (tag : Byte) (payload : List Byte) : Shape.Statement (.setLampPlan tag payload) :=
  fun h => by simpa [Instr.request] using (requestOk_iff tag payload).1 h
theorem Shape.setSeverity (tag : Byte) (payload : List Byte) : Shape.Statement (.setSeverity tag payload) :=
  fun h => by simpa [Instr.request] using (requestOk_iff tag payload).1 h
theorem Shape.setScanList (tag : Byte) (payload : List Byte) : Shape.Statement (.setScanList tag payload) :=
  fun h => by simpa [Instr.request] using (requestOk_iff tag payload).1 h
theorem Shape.setParameters (tag : Byte) (payload : List Byte) : Shape.Statement (.setParameters tag payload) :=
  fun h => by simpa [Instr.request] using (requestOk_iff tag payload).1 h
theorem Shape.setBudget (tag : Byte) (payload : List Byte) : Shape.Statement (.setBudget tag payload) :=
  fun h => by simpa [Instr.request] using (requestOk_iff tag payload).1 h
theorem Shape.setWeather (tag : Byte) (payload : List Byte) : Shape.Statement (.setWeather tag payload) :=
  fun h => by simpa [Instr.request] using (requestOk_iff tag payload).1 h
theorem Shape.setNoticeMask (tag : Byte) (payload : List Byte) : Shape.Statement (.setNoticeMask tag payload) :=
  fun h => by simpa [Instr.request] using (requestOk_iff tag payload).1 h
theorem Shape.addDeparture (tag : Byte) (payload : List Byte) : Shape.Statement (.addDeparture tag payload) :=
  fun h => by simpa [Instr.request] using (requestOk_iff tag payload).1 h
theorem Shape.cancelDeparture (tag : Byte) (payload : List Byte) : Shape.Statement (.cancelDeparture tag payload) :=
  fun h => by simpa [Instr.request] using (requestOk_iff tag payload).1 h
theorem Shape.listDepartures (tag : Byte) (payload : List Byte) : Shape.Statement (.listDepartures tag payload) :=
  fun h => by simpa [Instr.request] using (requestOk_iff tag payload).1 h
theorem Shape.queryBay (tag : Byte) (payload : List Byte) : Shape.Statement (.queryBay tag payload) :=
  fun h => by simpa [Instr.request] using (requestOk_iff tag payload).1 h
theorem Shape.setBayClass (tag : Byte) (payload : List Byte) : Shape.Statement (.setBayClass tag payload) :=
  fun h => by simpa [Instr.request] using (requestOk_iff tag payload).1 h
theorem Shape.holdBay (tag : Byte) (payload : List Byte) : Shape.Statement (.holdBay tag payload) :=
  fun h => by simpa [Instr.request] using (requestOk_iff tag payload).1 h
theorem Shape.releaseBay (tag : Byte) (payload : List Byte) : Shape.Statement (.releaseBay tag payload) :=
  fun h => by simpa [Instr.request] using (requestOk_iff tag payload).1 h
theorem Shape.waiveHeat (tag : Byte) (payload : List Byte) : Shape.Statement (.waiveHeat tag payload) :=
  fun h => by simpa [Instr.request] using (requestOk_iff tag payload).1 h
theorem Shape.waiveLamp (tag : Byte) (payload : List Byte) : Shape.Statement (.waiveLamp tag payload) :=
  fun h => by simpa [Instr.request] using (requestOk_iff tag payload).1 h
theorem Shape.waiveFault (tag : Byte) (payload : List Byte) : Shape.Statement (.waiveFault tag payload) :=
  fun h => by simpa [Instr.request] using (requestOk_iff tag payload).1 h
theorem Shape.startLampCheck (tag : Byte) (payload : List Byte) : Shape.Statement (.startLampCheck tag payload) :=
  fun h => by simpa [Instr.request] using (requestOk_iff tag payload).1 h
theorem Shape.cancelLampCheck (tag : Byte) (payload : List Byte) : Shape.Statement (.cancelLampCheck tag payload) :=
  fun h => by simpa [Instr.request] using (requestOk_iff tag payload).1 h
theorem Shape.readLampResult (tag : Byte) (payload : List Byte) : Shape.Statement (.readLampResult tag payload) :=
  fun h => by simpa [Instr.request] using (requestOk_iff tag payload).1 h
theorem Shape.readFaults (tag : Byte) (payload : List Byte) : Shape.Statement (.readFaults tag payload) :=
  fun h => by simpa [Instr.request] using (requestOk_iff tag payload).1 h
theorem Shape.refreshFaults (tag : Byte) (payload : List Byte) : Shape.Statement (.refreshFaults tag payload) :=
  fun h => by simpa [Instr.request] using (requestOk_iff tag payload).1 h
theorem Shape.clearPartFault (tag : Byte) (payload : List Byte) : Shape.Statement (.clearPartFault tag payload) :=
  fun h => by simpa [Instr.request] using (requestOk_iff tag payload).1 h
theorem Shape.ackOverdue (tag : Byte) (payload : List Byte) : Shape.Statement (.ackOverdue tag payload) :=
  fun h => by simpa [Instr.request] using (requestOk_iff tag payload).1 h
theorem Shape.identify (tag : Byte) (payload : List Byte) : Shape.Statement (.identify tag payload) :=
  fun h => by simpa [Instr.request] using (requestOk_iff tag payload).1 h
theorem Shape.queryDepot (tag : Byte) (payload : List Byte) : Shape.Statement (.queryDepot tag payload) :=
  fun h => by simpa [Instr.request] using (requestOk_iff tag payload).1 h
theorem Shape.queryGrants (tag : Byte) (payload : List Byte) : Shape.Statement (.queryGrants tag payload) :=
  fun h => by simpa [Instr.request] using (requestOk_iff tag payload).1 h
theorem Shape.gateHold (tag : Byte) (payload : List Byte) : Shape.Statement (.gateHold tag payload) :=
  fun h => by simpa [Instr.request] using (requestOk_iff tag payload).1 h
theorem Shape.gateRelease (tag : Byte) (payload : List Byte) : Shape.Statement (.gateRelease tag payload) :=
  fun h => by simpa [Instr.request] using (requestOk_iff tag payload).1 h
theorem Shape.gatePinChange (high : Bool) : Shape.Statement (.gatePinChange high) :=
  fun _ _ h => by cases h
theorem Shape.gateDebounceExpiry : Shape.Statement .gateDebounceExpiry :=
  fun _ _ h => by cases h
theorem Shape.scanStatusReadOutcome (attempts : List Attempt) : Shape.Statement (.scanStatusReadOutcome attempts) :=
  fun _ _ h => by cases h
theorem Shape.relaySendOutcome (attempts : List Attempt) : Shape.Statement (.relaySendOutcome attempts) :=
  fun _ _ h => by cases h
theorem Shape.pollOutcome (attempts : List Attempt) : Shape.Statement (.pollOutcome attempts) :=
  fun _ _ h => by cases h
theorem Shape.relayFetchOutcome (attempts : List Attempt) : Shape.Statement (.relayFetchOutcome attempts) :=
  fun _ _ h => by cases h
theorem Shape.sampleBlockOutcome (attempts : List Attempt) : Shape.Statement (.sampleBlockOutcome attempts) :=
  fun _ _ h => by cases h
theorem Shape.setOutputsOutcome (attempts : List Attempt) : Shape.Statement (.setOutputsOutcome attempts) :=
  fun _ _ h => by cases h
theorem Shape.allSafeEnd : Shape.Statement .allSafeEnd :=
  fun _ _ h => by cases h
theorem Shape.waitLimitExpiry : Shape.Statement .waitLimitExpiry :=
  fun _ _ h => by cases h
theorem Shape.stuckRecheck (high : Bool) : Shape.Statement (.stuckRecheck high) :=
  fun _ _ h => by cases h
theorem Shape.stuckLineLimit : Shape.Statement .stuckLineLimit :=
  fun _ _ h => by cases h
theorem Shape.scanRequestPromotion : Shape.Statement .scanRequestPromotion :=
  fun _ _ h => by cases h
theorem Shape.roundStart : Shape.Statement .roundStart :=
  fun _ _ h => by cases h
theorem Shape.roundSlowLimit : Shape.Statement .roundSlowLimit :=
  fun _ _ h => by cases h
theorem Shape.pollDue (bay : Bay) : Shape.Statement (.pollDue bay) :=
  fun _ _ h => by cases h
theorem Shape.relayTimeLimit (bay : Bay) : Shape.Statement (.relayTimeLimit bay) :=
  fun _ _ h => by cases h
theorem Shape.weatherStale : Shape.Statement .weatherStale :=
  fun _ _ h => by cases h
theorem Shape.regrantWaitExpiry (bay : Bay) : Shape.Statement (.regrantWaitExpiry bay) :=
  fun _ _ h => by cases h
theorem Shape.closingStaggerExpiry : Shape.Statement .closingStaggerExpiry :=
  fun _ _ h => by cases h
theorem Shape.noLoadLimit (bay : Bay) : Shape.Statement (.noLoadLimit bay) :=
  fun _ _ h => by cases h
theorem Shape.contactorStuckLimit (bay : Bay) : Shape.Statement (.contactorStuckLimit bay) :=
  fun _ _ h => by cases h
theorem Shape.orphanDelayExpiry (bay : Bay) : Shape.Statement (.orphanDelayExpiry bay) :=
  fun _ _ h => by cases h
theorem Shape.settleTimeExpiry (ctx : CtxId) : Shape.Statement (.settleTimeExpiry ctx) :=
  fun _ _ h => by cases h
theorem Shape.overdueExpiry (bay : Bay) : Shape.Statement (.overdueExpiry bay) :=
  fun _ _ h => by cases h
theorem Shape.lenOutOfRange (len : Byte) : Shape.Statement (.lenOutOfRange len) :=
  fun _ _ h => by cases h

end Sys2Proof.Laws
end

