-- ==== Sys2Proof/Tests/Slice0.lean ====
section
/-! SUPPORT. Tests: the ill-formed terms that WellFormed refuses, values that the manual works out, and for each statement
with hypotheses a state and operands that meet them, clause by clause. -/

namespace Sys2Proof.Tests

open Sys2Proof Sys2Proof.Machine Sys2Proof.Safety
set_option Elab.async false

/-! ### States -/

/-- The state a command leaves. -/
def after (c : Instr) (s : State) : State := match exec c s with | .next t => t | .fault _ | .refused _ => s

/-- Right after reset, but with the first round already running and nothing waiting for the bus. -/
def quiet : State :=
  { State.reset with
    scs := { State.reset.scs with round := .running }
    pbc := { State.reset.pbc with broadcast := false } }

def inMode (m : Mode) : State :=
  { quiet with
    clu := { quiet.clu with mode := m }
    clk := { quiet.clk with isSet := true }
    dpc := { quiet.dpc with lanes := quiet.dpc.lanes.set 0 [0, 1] } }

/-- In RUN, with bay 1 in a clearance state. -/
def bayIn (st : ClearState) : State := updDpc 0 (fun d => { d with state := st }) (inMode .run)

def held (h : HoldSet) (ret : ClearState) : State :=
  updDpc 0 (fun d => { d with holds := h, ret := some ret }) (bayIn .held)

/-- Bay 1 plugged in, its pedestal ONLINE. -/
def plugged (s : State) : State :=
  { updReport 0 (fun r => { r with plugged := true, occupied := true }) s with
    pbc := { s.pbc with health := upd s.pbc.health 0 fun _ => ⟨.online, 0⟩ } }

def onBus (t : Trans) (s : State) : State := { s with pbc := { s.pbc with current := some t } }

def transOf (w : Who) (o : Order) : Trans := ⟨w, some 0, o, false, false, .online, false⟩

/-- Bay 1's slot carries a relay. -/
def relaying (st : SlotState) (who : Requester) (m : CoachMsg) : State :=
  updSlot 0 (fun t => { t with
    state := st, requester := some who, message := some m, busClass := some who.busClass, sendAck := some 0 })
    (plugged (bayIn .standing))

def grant (st : GrantState) : Grant :=
  ⟨0, 240, .normal, 0, 0, st, 0, st == .pendingClose, some 0, .none, some 0, 0, false, some 0⟩

/-- Bay 1 has a grant, 10 seconds old. -/
def granted (st : GrantState) : State :=
  let s := plugged (bayIn .standing)
  { s with
    clk := { s.clk with ticks := 10, now := 10000 }
    pal := { s.pal with
      budget := 240, grants := [grant st]
      closing := if st = .pendingClose then [0] else []
      outstanding := if st = .pendingClose then some 0 else none } }

def classA : ClassRec := ⟨List.replicate 8 0x41, 240, 25, 12, 180, 200, 4⟩

def withClass (s : State) : State := { s with clu := { s.clu with classes := s.clu.classes.set 0 (some classA) } }

def entryOf (st : EntryState) : Entry := ⟨7, 30, 0, List.replicate 8 0x41, none, false, false, st, false, none⟩

def withEntry (st : EntryState) (s : State) : State :=
  updDpc 0 (fun d => { d with cur := some 7 }) { s with dpc := { s.dpc with entries := [entryOf st] } }

def lampPlanA : List LampStep := [⟨1, true, 100, 520⟩]

def ctxIn (p : Phase) (st : Stage) : Ctx :=
  ⟨0, p, st, lampPlanA, 1, 200, 4, if p = .step then 1 else 0, false,
    if p = .step then some (.value 20) else none, [], none, none, .sample, false, some 5⟩

/-- Bay 1 is in context 1. -/
def checking (x : Ctx) : State := updCtx 0 (some x) (plugged (bayIn .standing))

/-- A depot at work: bay 1 CLEARED and on its way, bay 2 held behind it with a fault, bay 3 heated, a bay waiting for its
lamp check. -/
def busy : State :=
  let s := withEntry .cleared (updDpc 1 (fun d => { d with state := .held, holds := 64, ret := some .ready })
    (updDpc 0 (fun d => { d with overdue := some 180 }) (bayIn .cleared)))
  { s with
    dpc := { s.dpc with latchReleased := true, readingReleased := true }
    pbc := { s.pbc with images :=
      (s.pbc.images.set 0 ⟨false, false, .green⟩).set 1 ⟨false, false, .red⟩ }
    pal := { s.pal with budget := 300, grants := [⟨2, 240, .normal, 0, 0, .active, 0, false, some 0, .none, none, 0, false, none⟩] }
    lce := { s.lce with queue := [3] }
    frs := { s.frs with
      free := 255
      bays := upd s.frs.bays 1 fun f => { f with
        chain := [⟨0x4001, .coach, .blocking, true, 1, 0, 0, false, .coach⟩] } } }

/-- Bay 1, alone at the front of its lane, with all that R177 asks for, under a released gate; its coach is plugged in or
not. -/
def fit (st : ClearState) (plug : Bool) : State :=
  let s := updFault 0 (fun f => { f with complete := true })
    (updReport 0 (fun r => { r with plugged := plug }) (withEntry (if st = .cleared then .cleared else .called)
      (plugged (bayIn st))))
  { updDpc 0 (fun d => { d with heatWaiver := true, relEntry := some 7 }) s with
    lce := { s.lce with waivers := s.lce.waivers.set 0 true } }

/-- The same with the gate line reading RELEASED and its pin high. -/
def fitOpen (st : ClearState) (plug : Bool) : State :=
  let s := fit st plug
  { s with dpc := { s.dpc with latchReleased := true, readingReleased := true, pinHigh := true, debounce := some 0 } }

/-- Bay 1 is a candidate of a level for 240 units of power, in a budget that they fill. -/
def asking (l : Level) : State :=
  let s := withClass (updIdent 0 (fun i => { i with cls := 1 }) (fit .standing true))
  { s with
    clk := { s.clk with ticks := 60 }
    hpl := { s.hpl with plans := upd s.hpl.plans 0 fun p => { p with level := l } }
    pal := { s.pal with budget := 240 } }

/-! ### Ill-formed commands are refused -/

theorem test_wf_tag_zero : (Instr.start 0 []).wellFormed = false := by decide
theorem test_wf_long_payload : (Instr.setLanes 1 (List.replicate 249 0)).wellFormed = false := by decide +kernel
theorem test_wf_known_type : (Instr.badTypeRequest 0x30 1 []).wellFormed = false := by decide
theorem test_wf_type_above_range : (Instr.badTypeRequest 0x40 1 []).wellFormed = false := by decide
theorem test_wf_no_characters : (Instr.frameReceived []).wellFormed = false := by decide
theorem test_wf_len_in_range : (Instr.lenOutOfRange 2).wellFormed = false := by decide
theorem test_wf_no_attempt : (Instr.pollOutcome []).wellFormed = false := by decide
theorem test_wf_three_attempts :
    (Instr.pollOutcome [.nakAddress, .nakAddress, .nakAddress]).wellFormed = false := by decide
theorem test_wf_long_return : (Instr.pollOutcome [.done (List.replicate 65 0)]).wellFormed = false := by decide +kernel
theorem test_wf_accepts :
    (Instr.start 1 []).wellFormed = true ∧ (Instr.badTypeRequest 0x3F 1 []).wellFormed = true ∧
      (Instr.lenOutOfRange 251).wellFormed = true ∧ (Instr.pollOutcome [.nakAddress]).wellFormed = true := by decide

/-! ### Values the manual works out -/

/-- R117's example: I = 346 and U = 400. -/
theorem test_measured_power : measuredPower 346 400 = 239 ∧ measuredPower 4095 400 = 2837 := by decide
/-- R103's example: a schedule of 05:30 at 3000 and 22:00 at 6000. -/
theorem test_budget_in_force :
    budgetAt [⟨330, 3000⟩, ⟨1320, 6000⟩] 120 = 6000 ∧ budgetAt [⟨330, 3000⟩, ⟨1320, 6000⟩] 330 = 3000 ∧
      budgetAt [⟨330, 3000⟩, ⟨1320, 6000⟩] 1319 = 3000 ∧ budgetAt [⟨330, 3000⟩, ⟨1320, 6000⟩] 1320 = 6000 := by decide
/-- R154's example: the accepted table of three entries. -/
theorem test_severity_example :
    let t : List SevEntry := [⟨0x4000, 0x4FFF, .blocking⟩, ⟨0x0F00, 0x0FFF, .ignore⟩, ⟨0x0001, 0xFFFF, .restrict⟩]
    lookupSeverity t 0x4001 = .blocking ∧ lookupSeverity t 0x0F00 = .ignore ∧ lookupSeverity t 0x2200 = .restrict := by
  decide
/-- R94: no derating at 0 degrees, the cap at 900, and the floor of 1. -/
theorem test_derating : derating 12 0 = 0 ∧ derating 25 (-400) = 900 ∧ effectiveRate 1 900 = 1 ∧
    effectiveRate 25 0 = 25 := by decide
/-- R138: the table of outcomes at its limits, for a step of 35 to 60. -/
theorem test_step_outcomes :
    let p : LampStep := ⟨5, false, 35, 60⟩
    stepOutcome p [7] 7 = .opened ∧ stepOutcome p [8] 8 = .degraded ∧ stepOutcome p [34] 34 = .degraded ∧
      stepOutcome p [35] 35 = .pass ∧ stepOutcome p [60] 60 = .pass ∧ stepOutcome p [61] 61 = .overload ∧
      stepOutcome p [4095] 0 = .overrange := by decide
/-- R199: negative numbers in two's complement, high byte first, and 12:34:56 as a time of day. -/
theorem test_layouts : s16 (-1) = [0xFF, 0xFF] ∧ s16 (-400) = [0xFE, 0x70] ∧ timeOfDay 45296 = [12, 34, 56] := by decide
/-- The CRC of section 10.7 on the nine characters 1 to 9: the check value of this polynomial and initial value. -/
theorem test_crc : crc16 [0x31, 0x32, 0x33, 0x34, 0x35, 0x36, 0x37, 0x38, 0x39] = 0x29B1 := by decide +kernel
/-- R36, R33: two NAKed attempts take an UNSEEN pedestal to SUSPECT with a count of 2. -/
theorem test_failure_count :
    (after (.scanStatusReadOutcome [.nakAddress, .nakAddress]) (after .allSafeEnd State.reset)).pbc.health[0] =
      ⟨.suspect, 2⟩ := by decide +kernel
/-- R198: HOLD BAY of an EMPTY bay is answered WRONG_STATE. -/
theorem test_hold_empty :
    (after (.holdBay 1 [1]) State.reset).clu.tx = .reply ⟨0xA2, 1, [0x14]⟩ := by decide +kernel
/-- R196, R197: a whole QUERY DEPOT frame is answered. -/
theorem test_frame_answered :
    (match (after (.frameReceived (Frame.wire ⟨0x30, 9, []⟩)) quiet).clu.tx with
      | .reply f => decide (f.type = 0xB0 ∧ f.tag = 9) | _ => false) = true := by decide +kernel
/-- R13, R14: the second tick at 23:59:59 wraps and raises the minute tick of minute 0. -/
theorem test_midnight :
    let t := after .secondTick { quiet with clk := { quiet.clk with tod := 86399 } }
    t.clk.tod = 0 ∧ t.clk.minuteTicks = [0] := by decide +kernel
/-- R66: a slot that is freed and taken again in one event has still told those who waited, and waits for none. -/
theorem test_slot_freed_and_retaken :
    let s := updSlot 0 (fun t => { t with waiting := ⟨false, true, false⟩ })
      (onBus (transOf (.relay 0) (.relayFetch 8)) (relaying .fetching .clr .ident))
    let t := (after (.relayFetchOutcome [.done [0, 1, 0x41, 0x41, 0x41, 0x41, 0x41, 0x41]]) s).clr.slots[(0 : Bay)]
    t.requester = some .frs ∧ t.waiting = ⟨false, false, false⟩ := by decide +kernel
/-- R178: a bay READY again after RELEASING stays READY with a cold cabin, and without the mark it returns to STANDING. -/
theorem test_conditions_held_true :
    let s (r : Bool) : State := updDpc 0 (fun d => { d with heatWaiver := false, released := r }) (fit .ready true)
    (decideBay 0 (s true)).dpc.bays[(0 : Bay)].state = .ready ∧
      (decideBay 0 (s false)).dpc.bays[(0 : Bay)].state = .standing := by decide +kernel
/-- R52 to R54: a round of 2001 ms leaves ROUND_SLOW set, and clears it when the next round start finds an empty list. -/
theorem test_slow_round_then_none :
    let s (inService : Bool) : State := onBus (transOf .scan (.statusRead true)) { quiet with
      clk := { quiet.clk with now := 2001 }
      dpc := { quiet.dpc with bays := quiet.dpc.bays.map fun d => { d with inService := inService } } }
    let t (inService : Bool) : State := after (.scanStatusReadOutcome [.done (checked [0, 0, 0, 0, 0, 0, 0])]) (s inService)
    ((t true).scs.slow = true ∧ (t true).scs.round = .running) ∧
      ((t false).scs.slow = false ∧ (t false).scs.round = .stopped ∧ (t false).scs.lastDuration = 2001) := by decide +kernel
/-- R138, R151: a step's delta of 4095 has a record with a delta in range, and one of 4094 has its own. -/
theorem test_record_delta :
    average [4095, 4095, 4095, 4095] - 0 = 4095 ∧ recordDelta 4094 = 4094 ∧ recordDelta 4095 ≤ 4094 :=
  ⟨by decide, recordDelta_self 4094 (Nat.le_refl _), recordDelta_le 4095⟩
/-- R16: a step of 301 s in RUN is BAD_VALUE. -/
theorem test_clock_step :
    (after (.setClock 1 [0, 5, 1]) (inMode .run)).clk.tod = 0 ∧ (after (.setClock 1 [0, 5, 0]) (inMode .run)).clk.tod = 300 := by
  decide +kernel

/-! ### What each statement asks for can be met -/

theorem test_meets_FrontCommandRuns :
    ({ busy with pending := [.secondTick, .minuteTick] } : State).pending = Instr.secondTick :: [.minuteTick] := rfl
theorem test_meets_IdleStepCountsAMillisecond : busy.pending = [] := rfl
theorem test_meets_StrapsSetTheRates : ∃ t, exec .brokenCharacter busy = .next t := ⟨_, rfl⟩
theorem test_meets_EventsKeepSettings : ∃ t, exec .weatherStale busy = .next t := ⟨_, rfl⟩
/-- The state at work takes a step. -/
theorem test_busy_steps : ∃ t, step busy = .next t := ⟨_, rfl⟩
theorem test_meets_StepKeepsBudgetLaw : BudgetLaw busy := by unfold BudgetLaw; decide +kernel
theorem test_meets_StepKeepsGrantLaws :
    OneGrantLaw busy ∧ ClosingLaw busy ∧ OneGrantLaw (granted .pendingClose) ∧ ClosingLaw (granted .pendingClose) := by
  unfold OneGrantLaw ClosingLaw; decide +kernel
theorem test_meets_StepKeepsGrantLaws_regrant : RegrantLaw (updPalBay 0 (fun p => { p with regrant := some 0 }) busy) := by
  unfold RegrantLaw; decide +kernel
theorem test_meets_StepKeepsPoolLaw : PoolLaw busy := by unfold PoolLaw; decide +kernel
theorem test_meets_StepKeepsTimetableLaw : TimetableLaw busy ∧ CurrentLaw busy := by
  unfold TimetableLaw CurrentLaw; decide +kernel
theorem test_meets_StepKeepsClearanceLaws : LaneLaw busy ∧ ModeLaw busy ∧ ClearedLaw busy := by
  unfold LaneLaw ModeLaw ClearedLaw; decide +kernel
theorem test_meets_StepKeepsHoldAndOverdueLaws : HoldLaw busy ∧ OverdueLaw busy := by
  unfold HoldLaw OverdueLaw; decide +kernel
theorem test_meets_StepKeepsFaultLaw : FaultLaw busy := by unfold FaultLaw; decide +kernel
theorem test_meets_StepKeepsSignalLaw : SignalLaw busy := by unfold SignalLaw; decide +kernel
theorem test_meets_StepKeepsQueueLaws : LampLaw busy ∧ ReceiveLaw busy := by unfold LampLaw ReceiveLaw; decide +kernel
theorem test_meets_OneClearedBayInALane :
    [(0 : Bay), 1] ∈ busy.dpc.lanes.toList ∧ busy.dpc.bays[(0 : Bay)].state = .cleared := by decide +kernel

/-- A request of one byte, and its characters. -/
def frameA : Frame := ⟨0x19, 3, [7]⟩

theorem test_meets_FramesAreReadAsSent : frameA.payload.length ≤ 248 ∧ busy.clu.receiver = .hunting := by decide +kernel
/-- The first and the last character that may be damaged. -/
theorem test_meets_DamagedFramesAreDropped :
    (2 < frameA.wire.length ∧ frameA.wire[2]? ≠ some 0x18) ∧
      6 < frameA.wire.length ∧ frameA.wire[6]? ≠ some (~~~ (frameA.wire[6]?.getD 0)) := by decide +kernel
theorem test_meets_ReceivedRequestsAreServedOrWait :
    let full : State := { quiet with clu := { quiet.clu with rxQueue := [frameA, frameA, frameA, frameA], tx := .reply frameA } }
    let one : State := { quiet with clu := { quiet.clu with rxQueue := [frameA, frameA, frameA], tx := .reply frameA } }
    (1 ≤ frameA.type.toNat ∧ frameA.type.toNat ≤ 0x3F ∧ frameA.tag ≠ 0) ∧
      ((wake one).clu.rxQueue.length < 4 ∧ replyFree (wake one) = false) ∧
      ((wake quiet).clu.rxQueue = [] ∧ replyFree (wake quiet) = true) ∧ 4 ≤ (wake full).clu.rxQueue.length ∧
      ¬(1 ≤ (⟨0x40, 1, []⟩ : Frame).type.toNat ∧ (⟨0x40, 1, []⟩ : Frame).type.toNat ≤ 0x3F) := by decide +kernel
theorem test_meets_FramesBeginAndAreAbandoned :
    (wake quiet).clu.receiver = .hunting ∧ (1#8).toNat < 2 ∧ 250 < (251#8).toNat ∧
      (wake (setReceiver (.frame []) quiet)).clu.receiver = .frame [] := by decide +kernel
theorem test_meets_RequestCommandsAreServed : (0x19, 3, [7]) ∈ (Instr.cancelDeparture 3 [7]).request := by decide
theorem test_meets_RefusedRequestsChangeNothing :
    (serve frameA quiet).2.result ≠ .ok ∧ (serve frameA quiet).2.result ≠ .clamped := by decide +kernel
theorem test_meets_RequestsAreCheckedFirst :
    (¬ 0x04 ∈ catalogue ∧ ¬ 0x3F ∈ catalogue) ∧ fixedSize 0x19 = some 1 ∧
      (([] : List Byte).length ≠ 5 * (1#8).toNat ∧ ([] : List Byte).length ≠ 2 * (1#8).toNat ∧
        ([] : List Byte).length ≠ 4 * (1#8).toNat) ∧
      ((List.replicate 6 0#8).length % 5 ≠ 0 ∧ 5 * 48 < (List.replicate 245 0#8).length) ∧
      (0#8).toNat = 0 ∧ 32 < (33#8).toNat ∧ (wake (inMode .config)).clu.mode = .config := by decide +kernel
/-- One lane promised and none there. -/
theorem test_meets_RequestsAreCheckedFirst_lanes : ∀ ls, lanesPayload ls ≠ [1] := by
  intro ls h
  cases ls with
  | nil => simp [lanesPayload, u8] at h
  | cons l ls => simp [lanesPayload, u8] at h
theorem test_meets_FrameSentChoosesTheNext :
    let r : State := { quiet with clu := { quiet.clu with tx := .reply frameA, depotPending := addKind 0 .gate } }
    let q : State := { quiet with clu := { quiet.clu with tx := .reply frameA, rxQueue := [frameA] } }
    let p : State := { quiet with clu := { quiet.clu with tx := .notice frameA, replies := [frameA] } }
    (wake quiet).clu.tx = .idle ∧
      ((wake r).clu.tx ≠ .idle ∧ (wake r).clu.rxQueue = [] ∧ hasKind (wake r).clu.depotPending .entry = false ∧
        nextNotice { wake r with clu := { (wake r).clu with tx := .idle } } = some (.gate, none)) ∧
      ((wake q).clu.rxQueue = [frameA] ∧ (wake q).clu.tx ≠ .idle ∧ (wake q).clu.replies = []) ∧
      ((wake p).clu.rxQueue = [] ∧ (wake p).clu.replies = [frameA]) := by decide +kernel
theorem test_meets_NoticesGoInOrder :
    nextNotice (raiseBay .held 0 quiet) = some (.held, some 0) ∧ nextNotice (raiseDepot .gate quiet) = some (.gate, none) ∧
      nextNotice quiet = none := by decide +kernel
theorem test_meets_SendingANoticeClearsIt :
    nextNotice (raiseEntry 7 quiet) = some (.entry, none) ∧ nextNotice (raiseBay .overdue 31 quiet) = some (.overdue, some 31) ∧
      nextNotice (raiseDepot .gate quiet) = some (.gate, none) ∧
      (nextNotice (raiseDepot .budgetExceeded quiet) = some (.budgetExceeded, none) ∧
        (raiseDepot .budgetExceeded quiet).pal.meterSum < 65536) := by
  decide +kernel
theorem test_meets_QueriesAnswerTheState :
    let r : LampResult := ⟨0, 0, .pass, none, 1, none, []⟩
    let s : State := { quiet with lce := { quiet.lce with results := quiet.lce.results.set 31 (some r) } }
    r ∈ (wake s).lce.results[(31 : Bay)] ∧ (wake s).lce.results[(0 : Bay)] = none := by decide +kernel
theorem test_meets_QueriesAnswerTheState_grants :
    (0#8).toNat + 0 < 16 ∧ (wake busy).pal.grants[(0#8).toNat + 0]?.map (·.levelAtAdmission) = some .normal := by
  decide +kernel
theorem test_meets_TableRunsAreReported : (1#8) ≠ 0 ∧ (255#8) ≠ 0 := by decide
theorem test_meets_ModesAllowRequests :
    (0x09#8).toNat ∈ [0x09, 0x0A, 0x0B, 0x0C, 0x0E] ∧ (0x0E#8).toNat ∈ [0x09, 0x0A, 0x0B, 0x0C, 0x0E] ∧
      (inMode .config).clu.mode = .config ∧ (inMode .safe).clu.mode ≠ .config ∧
      ¬ (0x30#8).toNat ∈ [0x01, 0x02, 0x03, 0x09, 0x0A, 0x0B, 0x0C, 0x0E, 0x33] := by decide +kernel
theorem test_meets_StartAndConfigureChangeTheMode :
    ((wake (inMode .config)).clu.mode ≠ .run ∧ (wake (inMode .config)).clk.isSet = true ∧
      [(0 : Bay), 1] ∈ (wake (inMode .config)).dpc.lanes.toList) ∧ (wake (inMode .run)).clu.mode = .run ∧
      (wake quiet).clk.isSet = false ∧ (wake (inMode .safe)).clu.mode = .safe := by decide +kernel
theorem test_meets_StopMakesTheDepotSafe :
    (wake busy).clu.mode = .run ∧ (wake (inMode .safe)).clu.mode ≠ .run ∧
      (wake busy).dpc.bays[(0 : Bay)].state = .cleared ∧ (wake busy).dpc.bays[(1 : Bay)].state = .held := by decide +kernel
theorem test_meets_SetClockMovesTheTimeOfDay :
    ((24#8).toNat > 23 ∧ (60#8).toNat > 59) ∧ ((wake busy).clu.mode ≠ .config ∧ (wake busy).clk.tod = 0) ∧
      ((300 : Int) - 0 + 43200) % 86400 - 43200 ≤ 300 ∧ 300 < ((301 : Int) - 0 + 43200) % 86400 - 43200 ∧
      (wake (inMode .config)).clu.mode = .config := by decide +kernel
theorem test_meets_SecondTickAdvancesTheClock :
    (wake busy).clk.tod < 86400 ∧ BudgetLaw (wake busy) ∧ (3 : Bay) ∈ (wake busy).lce.queue := by
  unfold BudgetLaw; decide +kernel
theorem test_meets_MinuteTickRunsTheDepot :
    (wake busy).clk.minuteTicks = [] ∧
      (wake { busy with clk := { busy.clk with minuteTicks := [30] } }).clk.minuteTicks = [30] ∧
      entryOf .cleared ∈ (wake busy).dpc.entries ∧ TimetableLaw (wake busy) := by unfold TimetableLaw; decide +kernel
/-- Bay 1 HELD from RELEASING, its cabin not ready, with an entry that was cancelled 600 second ticks ago. -/
def heldWithOld : State :=
  updDpc 0 (fun d => { d with holds := addHold 0 .host, ret := some .releasing, cur := none, heatWaiver := false })
    { fit .held false with
      clk := { State.reset.clk with ticks := 600, minuteTicks := [1] }
      dpc := { (fit .held false).dpc with entries := [{ entryOf .cancelled with terminalSince := some 0 }] } }
theorem test_meets_MinuteTickRunsTheDepot_removal :
    TimetableLaw (wake heldWithOld) ∧ CurrentLaw (wake heldWithOld) ∧ (wake heldWithOld).clk.minuteTicks = [1] ∧
      (wake heldWithOld).clk.ticks - 0 ≥ 600 ∧ (wake heldWithOld).dpc.bays[(0 : Bay)].relEntry = some 7 := by
  unfold TimetableLaw CurrentLaw; decide +kernel
/-- R174, R178, R184: the removed id 7, used and CALLED again, is not the entry the bay was held with, and the bay that RELEASE
BAY lets go returns to STANDING. -/
theorem test_reused_id_is_another_entry :
    let t := after .minuteTick heldWithOld
    t.dpc.entries = [] ∧ t.dpc.bays[(0 : Bay)].relEntry = none ∧ t.dpc.bays[(0 : Bay)].state = .held ∧
      (after (.releaseBay 1 [1]) (withEntry .called t)).dpc.bays[(0 : Bay)].state = .standing := by decide +kernel
/-- R166, R168: the freeing of a bay that has nothing to free gives a fault change and its notice. -/
theorem test_freeing_a_clean_bay_is_a_fault_change :
    State.reset.frs.bays[(0 : Bay)] = FaultBay.atReset ∧
      hasKind (frsFree 0 State.reset).clu.pending[(0 : Bay)] .faultsChanged = true ∧
      hasKind State.reset.clu.pending[(0 : Bay)] .faultsChanged = false := by decide +kernel
/-- A NORMAL grant that has stood for the period, and a NORMAL candidate. -/
theorem test_meets_MinuteTickRunsTheDepot_rotation :
    let s := asking .normal
    let t : State := { s with
      clk := { s.clk with ticks := 1200 }
      hpl := { s.hpl with plans := upd s.hpl.plans 2 fun p => { p with level := .normal } }
      pal := { s.pal with grants := busy.pal.grants } }
    OneGrantLaw t ∧ t.params.rotation = 20 ∧ candidate 0 t = true ∧ level 0 t = .normal ∧ level 2 t = .normal ∧
      t.pal.grants.map (fun g => (g.bay, g.state, g.admissionTick)) = [(2, .active, 0)] ∧
      ({ t.params with rotation := 0 } : Params).rotation = 0 := by unfold OneGrantLaw; decide +kernel
theorem test_meets_SetLanesReplacesTheTable :
    let ls : List (Byte × List Byte) := [(1, [1, 2]), (8, [32])]
    ((lanesPayload ls).length ≤ 248 ∧ (∀ l ∈ ls, 1 ≤ l.1.toNat ∧ l.1.toNat ≤ 8 ∧ 1 ≤ l.2.length ∧ l.2.length ≤ 8 ∧
        ∀ b ∈ l.2, 1 ≤ b.toNat ∧ b.toNat ≤ 32) ∧ (ls.map (·.1)).Nodup ∧ (ls.flatMap (·.2)).Nodup) ∧
      ¬((([(9, [1])] : List (Byte × List Byte)).all fun l => decide (l.1.toNat ≤ 8)) = true) ∧
      (wake (inMode .config)).clu.mode = .config ∧ (wake busy).clu.mode ≠ .config ∧
      (updDpc 2 (fun d => { d with state := .held }) (inMode .config)).dpc.bays[(2 : Bay)].state = .held := by
  decide +kernel
theorem test_meets_SetBayServiceChangesOneBay :
    let c := inMode .config
    (wake busy).clu.mode ≠ .config ∧ (wake c).clu.mode = .config ∧ (2#8) ≠ 0 ∧ (2#8) ≠ 1 ∧
      (wake c).dpc.bays[(0 : Bay)].state ≠ .held ∧ (wake c).dpc.bays[(0 : Bay)].inService = decide ((0#8) = 0) ∧
      (wake c).dpc.bays[(0 : Bay)].inService ≠ decide ((1#8) = 0) ∧
      (wake (updDpc 0 (fun d => { d with state := .held }) c)).dpc.bays[(0 : Bay)].state = .held ∧
      ¬ (0 : Bay) ∈ behind 0 (wake c) ∧ ¬ (2 : Bay) ∈ behind 0 (wake c) := by decide +kernel
/-- Bay 2 held from CLEARED behind bay 1, and bay 2 not HELD. -/
theorem test_meets_SetBayServiceChangesOneBay_behind :
    let c := inMode .config
    let h := updDpc 1 (fun d => { d with state := .held, holds := 128, ret := some .cleared }) c
    (ModeLaw (wake h) ∧ (1 : Bay) ∈ behind 0 (wake h) ∧ (wake h).dpc.bays[(1 : Bay)].state = .held ∧
        (wake h).dpc.bays[(1 : Bay)].ret = some .cleared) ∧
      ModeLaw (wake c) ∧ (1 : Bay) ∈ behind 0 (wake c) ∧ (wake c).dpc.bays[(1 : Bay)].state ≠ .held := by
  unfold ModeLaw; decide +kernel
/-- Bay 2 held from READY behind bay 1. -/
theorem test_meets_SetBayServiceChangesOneBay_ready :
    let r := updDpc 1 (fun d => { d with state := .held, holds := 128, ret := some .ready }) (inMode .config)
    ModeLaw (wake r) ∧ (1 : Bay) ∈ behind 0 (wake r) ∧ (wake r).dpc.bays[(1 : Bay)].state = .held ∧
      (wake r).dpc.bays[(1 : Bay)].ret ≠ some .cleared := by
  unfold ModeLaw; decide +kernel
theorem test_meets_SetBayServiceChangesOneBay_holds :
    HoldLaw (wake (inMode .config)) ∧
      ∀ c ∈ [ClearState.ready, .cleared],
        HoldLaw (wake (updDpc 1 (fun d => { d with state := .held, holds := 128, ret := some c }) (inMode .config))) := by
  unfold HoldLaw; decide +kernel
/-- A scan that has stopped, at 249 ms and at 250 ms of its round. -/
theorem test_meets_SetBayServiceChangesOneBay_scan :
    let c (now : Nat) : State := { inMode .config with
      clk := { (inMode .config).clk with now := now }, scs := { (inMode .config).scs with round := .stopped } }
    ((wake (c 249)).scs.round = .stopped ∧ (wake (c 249)).clk.now < (wake (c 249)).scs.roundStart + 250) ∧
      ((wake (c 250)).scs.round = .stopped ∧ (wake (c 250)).scs.roundStart + 250 ≤ (wake (c 250)).clk.now) ∧
      effectiveList (c 250) ≠ [] := by decide +kernel
theorem test_meets_ClassesAndPlansAreSet :
    (wake busy).clu.mode ≠ .config ∧ (wake (inMode .config)).clu.mode = .config ∧
      (10 ≤ classA.power ∧ classA.power ≤ 600 ∧ 1 ≤ classA.rate ∧ classA.rate ≤ 2000 ∧ classA.loss ≤ 25 ∧
        50 ≤ classA.target ∧ classA.target ≤ 260 ∧ 50 ≤ classA.settle ∧ classA.settle ≤ 2000 ∧ 2 ≤ classA.block ∧
        classA.block ≤ 16 ∧ ∀ x ∈ classA.name, 0x20 ≤ x.toNat ∧ x.toNat ≤ 0x7E) ∧ ¬(10 ≤ 9) ∧
      (∀ x ∈ lampPlanA, x.group < 128 ∧ 1 ≤ x.group ∧ x.group ≤ 63 ∧ 1 ≤ x.min ∧ x.min ≤ 4000 ∧ x.min ≤ x.max ∧
        x.max ≤ 4094) ∧ (lampPlanA.map (·.group)).Nodup ∧ (0 : Fin 8).val + 1 = (1#8).toNat ∧
      (∀ i : Fin 8, i.val + 1 ≠ (9#8).toNat) := by decide +kernel
theorem test_meets_SetSeverityStagesTheTable :
    let e : SevEntry := ⟨1, 0xFFFF, .restrict⟩
    let half : State := { quiet with frs := { quiet.frs with staging := [e], stagingTotal := some 2 } }
    (e.low < 65536 ∧ e.high < 65536 ∧ 1 ≤ e.low ∧ e.low ≤ e.high) ∧ (64#8).toNat ≤ 64 ∧ ¬((65#8).toNat ≤ 64) ∧
      ((wake half).frs.stagingTotal = some (2#8).toNat ∧ (wake half).frs.staging.length = (1#8).toNat) ∧
      ¬((wake quiet).frs.stagingTotal = some (2#8).toNat) ∧ ([] ++ [e]).length ≠ (2#8).toNat ∧
      ([e] ++ [e]).length = (2#8).toNat := by decide +kernel
theorem test_meets_PageEntriesAreLookedUpAndMerged :
    let e : PageEntry := ⟨0x4001, true, 2⟩
    lookupSeverity busy.frs.table e.code ≠ .ignore ∧ lookupSeverity [⟨1, 0xFFFF, .ignore⟩] e.code = .ignore ∧
      (busy.frs.bays[(1 : Bay)].chain.any fun r => r.isOf e.code .coach) = true ∧
      (busy.frs.bays[(0 : Bay)].chain = [] ∧ 0 < busy.frs.free) := by decide +kernel
/-- A chain of 16 with one ADVISORY record, one with none but RESTRICT records, and one where nothing gives way. -/
theorem test_meets_PageEntriesAreLookedUpAndMerged_full :
    let r (v : Severity) : FaultRec := ⟨0x4001, .coach, v, true, 1, 0, 0, false, .coach⟩
    (16 ≤ (r .restrict :: r .advisory :: List.replicate 14 (r .blocking)).length ∧
        Replaces .restrict (r .restrict :: r .advisory :: List.replicate 14 (r .blocking)) [r .restrict] (r .advisory)) ∧
      Replaces .blocking (List.replicate 16 (r .restrict)) [] (r .restrict) ∧
      (∀ y ∈ List.replicate 16 (r .restrict), y.severity ≠ .advisory) ∧ Severity.restrict ≠ .blocking := by
  unfold Replaces; decide +kernel
/-- A failed step, a passed one, and a HEATER record that stands. -/
theorem test_meets_PageEntriesAreLookedUpAndMerged_parts :
    let es : List StepEntry := [⟨1, true, .opened, 0⟩, ⟨5, false, .pass, 40⟩]
    let t := lampReplacement 1 es busy
    let r : FaultRec := ⟨0xF202, .heater, .blocking, true, 255, 0, 0, true, .heater 0 .overload⟩
    (es.filter fun e => decide (e.outcome ≠ .pass)) = [⟨1, true, .opened, 0⟩] ∧ (r.code = 0xF202 ∧ r.origin = .heater) ∧
      (∃ x ∈ t.frs.bays[(1 : Bay)].chain, x.origin = .lamp ∧ x.detail = .lamp 1 0) ∧
      (16 ≤ (List.replicate 16 r).length ∨ quiet.frs.free = 0) := by decide +kernel
/-- In CONFIG, waiting for the next round's start. -/
def paced : State := { quiet with scs := { quiet.scs with round := .pacing } }

/-- The same with every bay out of service. -/
def pacedEmpty : State :=
  { paced with dpc := { paced.dpc with bays := Vector.replicate 32 { DpcBay.atReset with inService := false } } }

theorem test_meets_ScanRoundsAreRun_list :
    let es : List (Byte × Byte) := [(32, 1), (1, 0)]
    es.length ≤ 48 ∧ ∀ e ∈ es, 1 ≤ e.1.toNat ∧ e.1.toNat ≤ 32 ∧ (e.2 = 0 ∨ e.2 = 1) := by simp
theorem test_meets_ScanRoundsAreRun_mode :
    (wake busy).clu.mode ≠ .config ∧ (wake quiet).clu.mode = .config ∧ (wake quiet).scs.round = .running := by
  decide +kernel
theorem test_meets_ScanRoundsAreRun_start :
    (wake paced).scs.round = .pacing ∧ effectiveList (wake paced) ≠ [] := by decide +kernel
theorem test_meets_ScanRoundsAreRun_empty : effectiveList (wake pacedEmpty) = [] := by decide +kernel
theorem test_meets_ScanRoundsAreRun_request :
    (wake quiet).pbc.scanReq = none ∧
      (wake { quiet with pbc := { quiet.pbc with scanReq := some ⟨0, true, 0⟩ } }).pbc.scanReq = some ⟨0, true, 0⟩ := by
  decide +kernel
/-- Two second ticks of a round, and one. -/
theorem test_meets_ScanRoundsAreRun_slow :
    let s (n : Nat) : State := { quiet with clk := { quiet.clk with ticks := n } }
    ((wake (s 2)).scs.round = .running ∧ 2 ≤ (wake (s 2)).clk.ticks - (wake (s 2)).scs.roundTick) ∧
      ¬(2 ≤ (wake (s 1)).clk.ticks - (wake (s 1)).scs.roundTick) := by decide +kernel
/-- A scan request of 501 ms and one of 500 ms, with and without the work that goes before the second. -/
theorem test_meets_ScanRoundsAreRun_arbiter :
    let r : Request := ⟨.lamp 0, 0, .sampleBlock 4, 0⟩
    let p (now : Nat) (l : Line) (q : List OutEntry) (two three : List Request) : State := { quiet with
      clk := { quiet.clk with now := now }
      pbc := { quiet.pbc with
        line := l, outQ := q, class2 := two, class3 := three, scanReq := some ⟨0, true, 0⟩ } }
    let aged : State → Prop := fun s => (s.pbc.scanReq.any fun r => decide (500 < s.clk.now - r.made)) = true
    (onBus (transOf .scan (.statusRead true)) quiet).pbc.current ≠ none ∧
      (State.reset.pbc.current = none ∧ State.reset.pbc.broadcast = true) ∧
      ((p 501 (.stuck 0 600 false) [] [] []).pbc.broadcast = false ∧ (p 501 (.stuck 0 600 false) [] [] []).pbc.line ≠ .normal) ∧
      (aged (p 501 .normal [⟨0, Marks.none⟩] [r] [r]) ∧ (p 501 .normal [] [] []).pbc.line = .normal) ∧
      (¬aged (p 500 .normal [⟨0, Marks.none⟩] [r] [r]) ∧ (p 500 .normal [] [] []).pbc.current = none) ∧
      ([] : List Request).head?.or [r].head? = some r ∧ [r].head?.or none = some r ∧
      quiet.pbc.scanReq = none ∧ quiet.pbc.outQ = [] ∧ quiet.pbc.class2.head?.or quiet.pbc.class3.head? = none := by
  decide +kernel
theorem test_meets_SetParametersReplacesThemAll :
    let p : Params := { Params.atReset with margin := 60, callLead := 60, stagger := 30, voltage := 480 }
    (p.margin ≤ 60 ∧ p.callLead ≤ 60 ∧ p.missLimit ≤ 120 ∧ p.overdueWindow ≤ 30 ∧ p.rotation ≤ 60 ∧ 1 ≤ p.stagger ∧
      p.stagger ≤ 30 ∧ p.keepBand ≤ 50 ∧ p.tolerance ≤ 50 ∧ 200 ≤ p.voltage ∧ p.voltage ≤ 480 ∧ p.refresh ≤ 120 ∧
      1 ≤ p.validity ∧ p.validity ≤ 24 ∧ p.autoCheck = decide ((1#8) = 1)) ∧ p.margin ≠ (wake quiet).params.margin ∧
      Params.atReset = (wake quiet).params ∧ ¬(61 ≤ 60) := by decide +kernel
theorem test_meets_SetBudgetWorksOutTheBudget :
    let xs : List BudgetStep := [⟨330, 3000⟩, ⟨1320, 6000⟩]
    xs.Pairwise (fun a b => a.minute < b.minute) ∧ (xs.length ≤ 8 ∧ (∀ x ∈ xs, x.minute ≤ 1439 ∧ x.budget ≤ 50000) ∧
      (xs.map (·.minute)).Nodup) ∧ ¬(1440 ≤ 1439) ∧ (∀ y ∈ xs, 120 < y.minute) ∧ (∀ y ∈ xs, y.minute ≤ 1320) := by
  decide +kernel
/-- A pass within the budget, a grant that must be shed, a candidate of each level that fits and an URGENT one that does
not. -/
theorem test_meets_SetBudgetWorksOutTheBudget_pass :
    let u := asking .urgent
    let n := asking .normal
    let full : State := { u with pal := { u.pal with grants := busy.pal.grants } }
    let heavy : State := { busy with pal := { busy.pal with budget := 239 } }
    BudgetLaw busy ∧ (OneGrantLaw heavy ∧ heavy.pal.budget < totalPower (heavy.pal.grants.filter (·.state.live))) ∧
      (candidate 0 u = true ∧ level 0 u = .urgent ∧ committedLoad u + candidatePower 0 u ≤ u.pal.budget) ∧
      (OneGrantLaw full ∧ candidate 0 full = true ∧ full.pal.budget < committedLoad full + candidatePower 0 full) ∧
      candidate 0 n = true ∧ level 0 n = .normal ∧ ∀ b : Bay, ¬(candidate b n = true ∧ level b n = .urgent) := by
  unfold BudgetLaw OneGrantLaw; decide +kernel
theorem test_meets_WeatherIsTakenAndAges :
    let s (a : Nat) : State := { quiet with hpl := { quiet.hpl with weather := ⟨some 0, some a, false⟩ } }
    (wake (s 1800)).hpl.weather.age = some 1800 ∧ (wake (s 1799)).hpl.weather.age = some 1799 := by decide +kernel
theorem test_meets_NoticesAreMaskedAndAcknowledged : (128#8).toNat ≥ 128 ∧ (127#8).toNat < 128 := by decide
theorem test_meets_DeparturesAreAddedAndCancelled :
    let s := withEntry .called (bayIn .standing)
    (1 ≤ (255#8).toNat ∧ 1439 ≤ 1439 ∧ 1 ≤ (32#8).toNat ∧ (32#8).toNat ≤ 32 ∧ (3#8).toNat < 4 ∧
      ∀ e ∈ (wake s).dpc.entries, e.id ≠ 255) ∧ (wake s).dpc.entries.length < 64 ∧
      64 ≤ (wake { s with dpc := { s.dpc with entries := List.replicate 64 (entryOf .called) } }).dpc.entries.length ∧
      (entryOf .called ∈ (wake s).dpc.entries ∧ (entryOf .called).id = (7#8).toNat) ∧
      (entryOf .cleared).state ≠ .scheduled ∧ (entryOf .cleared).state ≠ .called ∧
      (∀ e ∈ (wake s).dpc.entries, e.id ≠ (8#8).toNat) := by decide +kernel
theorem test_meets_CoachesGetClassAndIdentity :
    let s := plugged (bayIn .standing)
    8 < (9#8).toNat ∧ (8#8).toNat ≤ 8 ∧ (wake quiet).dpc.bays[(0 : Bay)].state = .empty ∧
      (wake s).dpc.bays[(0 : Bay)].state ≠ .empty ∧ (wake s).pbc.health[(0 : Bay)].state ≠ .offline ∧
      (wake s).scs.reports[(0 : Bay)].plugged = true ∧ (wake s).clr.idents[(0 : Bay)].state = .none ∧
      (wake quiet).scs.reports[(31 : Bay)].plugged = false ∧
      (wake (updIdent 0 (fun i => { i with state := .running }) s)).clr.idents[(0 : Bay)].state = .running ∧
      ({ s with pbc := { s.pbc with health := upd s.pbc.health 0 fun _ => ⟨.offline, 3⟩ } } : State).pbc.health[(0 : Bay)].state =
        .offline := by decide +kernel
theorem test_meets_BaysAreHeldAndReleased :
    let d (s : State) : DpcBay := (wake s).dpc.bays[(0 : Bay)]
    (d (bayIn .standing)).state = .standing ∧
      ((d (held 1 .ready)).state = .held ∧ hasHold (d (held 1 .ready)).holds .host = true) ∧
      ((d (bayIn .ready)).state = .ready ∧ hasHold (d (bayIn .ready)).holds .host = false) ∧
      (dropHold (dropHold (d (held 3 .ready)).holds .host) .signal ≠ 0) ∧
      (dropHold (dropHold (d (held 5 .cleared)).holds .host) .signal = 0 ∧ (d (held 5 .cleared)).ret = some .cleared) := by
  decide +kernel
theorem test_meets_WaiversAreSet :
    let w := wake (bayIn .standing)
    w.dpc.bays[(0 : Bay)].state ≠ .empty ∧ w.dpc.bays[(0 : Bay)].heatWaiver = false ∧ w.lce.waivers[(0 : Bay)] = false ∧
      (wake quiet).dpc.bays[(0 : Bay)].state = .empty ∧
      ((wake busy).frs.bays[(1 : Bay)].chain.any fun r => r.code == 0x40 * 256 + 0x01) = true ∧
      (wake busy).frs.bays[(0 : Bay)].chain = [] := by decide +kernel
/-- A STANDING bay that waits for its heat waiver: plugged in, and unplugged with the gate line of either reading. -/
theorem test_meets_WaiversAreSet_heat :
    let cold (s : State) : State := updDpc 0 (fun d => { d with heatWaiver := false }) s
    let waits (s : State) : Prop := (wake (cold s)).dpc.bays[(0 : Bay)].heatWaiver = false ∧
      (wake (cold s)).dpc.bays[(0 : Bay)].state = .standing ∧ readyConditions 0 (wake s) = true
    (waits (fit .standing true) ∧ (fit .standing true).scs.reports[(0 : Bay)].plugged = true) ∧
      (waits (fit .standing false) ∧ (wake (fit .standing false)).dpc.readingReleased = false) ∧
      (waits (fitOpen .standing false) ∧ pathClear 0 (wake (fitOpen .standing false)) = true ∧
        (wake (fitOpen .standing false)).dpc.readingReleased = true) ∧
      readyConditions 0 (bayIn .standing) = false := by decide +kernel
theorem test_meets_LampChecksAreStartedAndCancelled :
    let s := plugged (bayIn .standing)
    let t : State := { withClass (updIdent 0 (fun i => { i with cls := 1 }) s) with
      lce := { s.lce with plans := s.lce.plans.set 0 lampPlanA } }
    (wake t).scs.reports[(0 : Bay)].plugged = true ∧ bayPlan 0 (wake t) ≠ [] ∧ (wake t).lce.queue = [] ∧
      eligible 0 (wake t) = true ∧ freeContext (wake t) = some 0 ∧ eligible 0 (wake (inMode .safe)) = false ∧
      bayPlan 0 (wake s) = [] ∧ (3 : Bay) ∈ (wake busy).lce.queue ∧
      ctxOf 0 (wake (checking (ctxIn .step .settling))) = some 0 ∧
      (wake (checking (ctxIn .ending .command))).lce.ctxs[(0 : CtxId)] = some (ctxIn .ending .command) := by
  decide +kernel
theorem test_meets_FaultsAreRefreshedAndCleared :
    let s := plugged (bayIn .standing)
    ((wake s).frs.bays[(0 : Bay)].readState = .idle ∧ (wake s).scs.reports[(0 : Bay)].plugged = true ∧
        (wake s).clr.slots[(0 : Bay)].state = .idle ∧ (wake s).pbc.health[(0 : Bay)].state ≠ .offline) ∧
      (wake (relaying .awaiting .clr .ident)).clr.slots[(0 : Bay)].state ≠ .idle ∧
      (wake (updFault 0 (fun f => { f with readState := .waiting }) s)).frs.bays[(0 : Bay)].readState ≠ .idle ∧
      (wake quiet).scs.reports[(0 : Bay)].plugged = false ∧ (3#8) ≠ 1 ∧ (3#8) ≠ 2 := by decide +kernel
theorem test_meets_GateLineIsHeldAndRead :
    let s : State := { inMode .run with dpc := { (inMode .run).dpc with latchReleased := true, debounce := some 5 } }
    (wake quiet).dpc.latchReleased = false ∧ (wake s).dpc.latchReleased = true ∧ (wake quiet).clu.mode ≠ .run ∧
      (wake s).clu.mode = .run ∧ (false && (wake s).dpc.latchReleased) = (wake s).dpc.pinHigh ∧
      (true && (wake s).dpc.latchReleased) ≠ (wake s).dpc.pinHigh ∧ (wake quiet).dpc.debounce = none ∧
      (wake s).dpc.debounce = some 5 := by decide +kernel
/-- A RELEASING bay whose path is clear, one whose path is not, and a CLEARED one. -/
theorem test_meets_GateLineIsHeldAndRead_bays :
    let s := fitOpen .releasing false
    let shut := updDpc 1 (fun d => { d with state := .standing })
      { s with dpc := { s.dpc with lanes := s.dpc.lanes.set 0 [1, 0] } }
    (TimetableLaw (wake s) ∧ CurrentLaw (wake s) ∧ (wake s).dpc.pinHigh = true ∧
        (wake s).dpc.bays[(0 : Bay)].state = .releasing ∧ (wake s).scs.reports[(0 : Bay)].plugged = false ∧
        curEntry 0 (wake s) = some (entryOf .called) ∧ (wake s).dpc.bays[(0 : Bay)].relEntry = some 7 ∧
        pathClear 0 (wake s) = true) ∧ pathClear 0 (wake shut) = false ∧
      ((fit .cleared false).dpc.pinHigh = false ∧ (wake (fit .cleared false)).dpc.bays[(0 : Bay)].onTheWay = true ∧
        (wake (fit .cleared false)).scs.reports[(0 : Bay)].plugged = false) := by
  unfold TimetableLaw CurrentLaw; decide +kernel
theorem test_meets_GateLineIsHeldAndRead_holds :
    HoldLaw (wake (fitOpen .releasing false)) ∧
      HoldLaw (wake (updDpc 1 (fun d => { d with state := .standing }) (fitOpen .releasing false))) := by
  unfold HoldLaw; decide +kernel
theorem test_meets_ScanReportsUpdateTheBay :
    let t := transOf .scan (.statusRead true)
    (wake (onBus t busy)).pbc.current = some t ∧ t.who = .scan ∧ t.retry = false ∧ t.acked = false ∧ t.bay = some 0 ∧
      (wake (onBus t busy)).scs.round = .running ∧ (wake quiet).pbc.current = none ∧ (busy.scs.roundList[1]?) = none ∧
      effectiveList (wake (onBus t busy)) ≠ [] ∧
      ({ busy.scs with roundList := [⟨0, true⟩, ⟨1, true⟩] } : Scs).roundList[1]? = some ⟨1, true⟩ := by decide +kernel
/-- A calm bay: READY with its conditions and without them, STANDING with them, CLEARED; a HIGH report of 256 counts is an
overload of a grant of 120. -/
theorem test_meets_ScanReportsUpdateTheBay_clearance :
    let calm (s : State) : Prop := (wake s).pbc.health[(0 : Bay)] = ⟨.online, 0⟩ ∧
      (wake s).clr.slots[(0 : Bay)].state = .idle
    (calm (fit .ready true) ∧ readyConditions 0 (fit .ready true) = true ∧ readyConditions 0 (fit .ready false) = true) ∧
      (calm (plugged (bayIn .ready)) ∧ readyConditions 0 (plugged (bayIn .ready)) = false) ∧
      (calm (fit .standing true) ∧ readyConditions 0 (fit .standing true) = true) ∧
      (calm (fit .cleared false) ∧ (fit .cleared false).dpc.bays[(0 : Bay)].onTheWay = true ∧
        (fit .cleared false).scs.reports[(0 : Bay)].plugged = false ∧
        (fit .cleared false).scs.reports[(0 : Bay)].occupied = true ∧
        (fit .cleared false).clr.idents[(0 : Bay)].state = .none) ∧
      (bayIn .empty).dpc.bays[(0 : Bay)].state = .empty ∧ (120 : Nat) * 125 / 100 < 256 * 400 * 1732 / 1000000 := by
  decide +kernel
theorem test_meets_ScanReportsUpdateTheBay_laws :
    (TimetableLaw (fit .cleared false) ∧ CurrentLaw (fit .cleared false) ∧
        curEntry 0 (fit .cleared false) = some (entryOf .cleared)) ∧
      BudgetLaw (granted .active) ∧ OneGrantLaw (granted .active) ∧ ClosingLaw (granted .active) ∧
      grantOf 0 (granted .active) = some (grant .active) := by
  unfold TimetableLaw CurrentLaw BudgetLaw OneGrantLaw ClosingLaw; decide +kernel
/-- A bay that is READY again after RELEASING, its cabin cold. -/
theorem test_meets_ScanReportsUpdateTheBay_released :
    let s := updDpc 0 (fun d => { d with heatWaiver := false, released := true }) (fit .ready true)
    let d := (wake s).dpc.bays[(0 : Bay)]
    ((wake s).pbc.health[(0 : Bay)] = ⟨.online, 0⟩ ∧ (wake s).clr.slots[(0 : Bay)].state = .idle) ∧
      (d.state = .ready ∧ d.released = true ∧ d.inService = true) ∧ cabinReady 0 (wake s) = false ∧
      (wake s).scs.reports[(0 : Bay)].plugged = true ∧ curEntry 0 (wake s) = some (entryOf .called) ∧
      faultCondition 0 (wake s) = true ∧ (wake s).clu.mode = .run ∧ laneOf 0 (wake s) ≠ none := by decide +kernel
theorem test_meets_RelaysRunThroughTheirSlot :
    let t (o : Order) := transOf (.relay 0) o
    let slot (s : State) : Slot := (wake s).clr.slots[(0 : Bay)]
    let send := onBus (t (.relaySend [1])) (relaying .sending .clr .ident)
    let fetch := onBus (t (.relayFetch 8)) (relaying .fetching .clr .ident)
    let clear := updSlot 0 (fun t => { t with clearing := true }) (onBus (t (.relayFetch 0)) (relaying .fetching .clr .ident))
    let page := updFault 0 (fun f => { f with readState := .reading })
      (onBus (t (.relayFetch 3)) (relaying .fetching .frs (.readFaults 0)))
    let poll := updSlot 0 (fun t => { t with pollDue := some 50 }) (relaying .awaiting .clr .ident)
    ((wake send).pbc.current = some (t (.relaySend [1])) ∧ (slot send).state = .sending ∧ (slot send).abandoned = false ∧
        (slot send).cancelled = false ∧ (slot send).requester = some .clr) ∧
      ((slot fetch).state = .fetching ∧ (slot fetch).clearing = false ∧ (slot fetch).message = some .ident) ∧
      ((slot clear).state = .fetching ∧ (slot clear).clearing = true) ∧
      ((slot page).requester = some .frs ∧ (slot page).message = some (.readFaults 0) ∧
        (wake page).frs.bays[(0 : Bay)].readState = .reading ∧ (wake page).frs.bays[(0 : Bay)].page < 15) ∧
      (slot poll).state = .awaiting ∧ (slot poll).pollDue = some 50 ∧ (slot poll).sendAck = some 0 ∧
      (wake poll).pbc.health[(0 : Bay)].state ≠ .offline ∧ isOnBus (.relay 0) (wake poll) = false ∧
      isOnBus (.relay 0) (wake (onBus (t (.statusRead true)) poll)) = true := by decide +kernel
theorem test_meets_LampStepsAreMeasured :
    let settle := checking (ctxIn .step .settling)
    let last := checking (ctxIn .step .clearing)
    let first := checking { ctxIn .step .clearing with stepIndex := 0 }
    let t := transOf (.lamp 0) (.sampleBlock 4)
    let base := onBus t (checking (ctxIn .baseline .sampling))
    let lit := onBus t (checking (ctxIn .step .sampling))
    let x (s : State) : Option Ctx := (wake s).lce.ctxs[(0 : CtxId)]
    (x settle = some (ctxIn .step .settling) ∧ (ctxIn .step .settling).settleDue = some 5 ∧
        (wake settle).pbc.health[(0 : Bay)] = ⟨.online, 0⟩) ∧ (wake quiet).lce.ctxs[(0 : CtxId)] = none ∧
      (x last = some (ctxIn .step .clearing) ∧ (ctxIn .step .clearing).plan.length ≤ (ctxIn .step .clearing).stepIndex) ∧
      (x first).isSome = true ∧ lampPlanA[0]? = some ⟨1, true, 100, 520⟩ ∧
      ((wake base).pbc.current = some t ∧ x base = some (ctxIn .baseline .sampling) ∧ t.discard = false ∧
        (ctxIn .baseline .sampling).request = .sample) ∧
      (x lit = some (ctxIn .step .sampling) ∧ (ctxIn .step .sampling).baseline = some (.value 20) ∧
        1 ≤ (ctxIn .step .sampling).stepIndex) ∧ [4095, 0, 1, 2].length = 4 ∧ (∀ n ∈ [4095, 0, 1, 2], n ≤ 4095) ∧
      ((wake base).clr.slots[(0 : Bay)].state = .idle ∧ (wake base).clr.slots[(0 : Bay)].abandoned = false) := by
  decide +kernel
theorem test_meets_LampStepsAreMeasured_law :
    LampLaw (wake (checking (ctxIn .step .clearing))) ∧
      LampLaw (wake (updCtx 0 (some { ctxIn .step .sampling with retryUsed := true }) (checking (ctxIn .step .sampling)))) := by
  unfold LampLaw; decide +kernel
theorem test_meets_OutputWritesAreReported :
    let m : Marks := ⟨true, true, false⟩
    let close := transOf (.output m) (.setOutputs ⟨true, false, .green⟩)
    let opens := transOf (.output m) (.setOutputs ⟨false, false, .red⟩)
    let s := onBus close (updDpc 0 (fun d => { d with state := .cleared }) (granted .pendingClose))
    let r := onBus opens (granted .releasing)
    let q : State := { granted .pendingClose with pal := { (granted .pendingClose).pal with outstanding := none } }
    ((wake s).pbc.current = some close ∧ (wake s).pbc.health[(0 : Bay)] = ⟨.online, 0⟩ ∧
        grantOf 0 (wake s) = some (grant .pendingClose) ∧ (grant .pendingClose).issued = true ∧
        (wake s).dpc.bays[(0 : Bay)].state = .cleared ∧ (wake s).pal.outstanding = some 0) ∧
      (grantOf 0 (wake r) = some (grant .releasing) ∧ (wake r).dpc.bays[(0 : Bay)].state ≠ .cleared) ∧
      ((wake q).pal.closing = [0] ∧ (wake q).pal.outstanding = none ∧ (wake q).pal.lastCloseAck = none ∧
        (wake q).pbc.health[(0 : Bay)].state ≠ .offline) ∧ (wake s).pal.outstanding ≠ none := by decide +kernel
theorem test_meets_BusLineFailuresAreHandled :
    let line (n : Nat) (l : Line) : State := { plugged quiet with
      clk := { quiet.clk with ticks := n }, pbc := { (plugged quiet).pbc with line := l } }
    let t := transOf .scan (.statusRead true)
    (wake quiet).pbc.current = none ∧ (wake State.reset).pbc.current.map (·.who) = some .broadcast ∧
      ((wake (onBus t (plugged quiet))).pbc.current = some t ∧ t.who ≠ .broadcast ∧ t.retry = false ∧
        (wake (onBus t (plugged quiet))).pbc.health[(0 : Bay)] = ⟨.online, 0⟩) ∧ (wake quiet).pbc.line = .normal ∧
      ((wake (line 2 (.stuck 0 100 false))).pbc.line = .stuck 0 100 false ∧
        2 ≤ (wake (line 2 (.stuck 0 100 false))).clk.ticks - 0) ∧
      (wake (line 1 (.stuck 0 100 false))).clk.ticks - 0 < 2 ∧
      (wake (line 3 (.stuck 0 2100 true))).pbc.line = .stuck 0 2100 true ∧
      (wake (line 2 (.stuck 0 100 false))).pbc.health[(0 : Bay)].state ≠ .offline := by decide +kernel
theorem test_meets_LimitsOfABayRunOut :
    let wait (t : Nat) : State := updPalBay 0 (fun p => { p with regrant := some t })
      { quiet with clk := { quiet.clk with ticks := 60 } }
    let g (st : GrantState) : Option Grant := grantOf 0 (wake (granted st))
    ((wake (wait 0)).pal.bays[(0 : Bay)].regrant = some 0 ∧ (wake (wait 0)).clk.ticks - 0 ≥ 60) ∧
      ((wake (wait 1)).pal.bays[(0 : Bay)].regrant = some 1 ∧ ¬((wake (wait 1)).clk.ticks - 1 ≥ 60)) ∧
      (g .confirming = some (grant .confirming) ∧ (grant .confirming).closeAck = some 0 ∧
        (wake (granted .confirming)).clk.ticks - 0 ≥ 10) ∧
      (g .releasing = some (grant .releasing) ∧ (grant .releasing).stuckRecorded = false ∧
        (grant .releasing).openAck = some 0) ∧ (g .orphaned = some (grant .orphaned) ∧ (grant .orphaned).orphanedAt = some 0) ∧
      ((wake busy).dpc.bays[(0 : Bay)].overdue = some 180 ∧ (wake busy).clk.ticks < 180 ∧
        (wake { busy with clk := { busy.clk with ticks := 180 } }).clk.ticks ≥ 180) := by decide +kernel
theorem test_meets_LimitsOfABayRunOut_laws :
    (OneGrantLaw (granted .confirming) ∧ ClosingLaw (granted .confirming)) ∧
      OneGrantLaw (granted .releasing) ∧ ClosingLaw (granted .releasing) := by
  unfold OneGrantLaw ClosingLaw; decide +kernel
/-- A re-grant wait that has run its 60 s, of the only candidate, in a budget that its power fills. -/
theorem test_meets_LimitsOfABayRunOut_admission :
    let w := wake (updPalBay 0 (fun p => { p with regrant := some 0 }) (asking .urgent))
    RegrantLaw w ∧ BudgetLaw w ∧ ClosingLaw w ∧ w.pal.bays[(0 : Bay)].regrant = some 0 ∧ w.clk.ticks - 0 ≥ 60 ∧
      (∀ a : Bay, a ≠ 0 → candidate a w = false) ∧
      candidate 0 { w with pal := { w.pal with bays := w.pal.bays.set 0 { w.pal.bays[(0 : Bay)] with regrant := none } } } = true ∧
      committedLoad w + candidatePower 0 w ≤ w.pal.budget := by
  unfold RegrantLaw BudgetLaw ClosingLaw; decide +kernel
theorem test_meets_PlansFollowTheArithmetic :
    let s := withClass (withEntry .called (updIdent 0 (fun i => { i with cls := 1 }) (plugged (bayIn .standing))))
    let warm := updReport 0 (fun r => { r with cabin := some 180 }) s
    effRec 0 s = some classA ∧ curEntry 0 s = some (entryOf .called) ∧ s.scs.reports[(0 : Bay)].plugged = true ∧
      s.dpc.bays[(0 : Bay)].state = .standing ∧ (0 : Int) < 180 - s.scs.reports[(0 : Bay)].cabin.getD (outdoor s) ∧
      (180 : Int) - warm.scs.reports[(0 : Bay)].cabin.getD (outdoor warm) ≤ 0 ∧ effRec 0 quiet = none ∧
      curEntry 0 quiet = none ∧ quiet.scs.reports[(0 : Bay)].plugged = false ∧
      (bayIn .cleared).dpc.bays[(0 : Bay)].state ≠ .standing := by decide +kernel

end Sys2Proof.Tests
end

