-- ==== Sys2Proof/Proofs/ScanRounds.lean ====
section
/-! The Scan Sequencer and the arbiter: the payload of SET SCAN LIST, the start of a round, the limits of the scan, and the
arbiter's order (R39, R40, R48 to R54). -/

namespace Sys2Proof.ScanRounds

open Sys2Proof.Machine Sys2Proof.Safety

/-! ### The bytes of a scan list (section 10.4, R49) -/

theorem parseScan_entries (es : List (Byte × Byte)) :
    parseScan es.length (es.flatMap fun e => [e.1, e.2]) = some es := by
  induction es with
  | nil => rfl
  | cons e es ih => simp [parseScan, ih]

theorem bayByte_isSome (n : Byte) : (bayByte n).isSome ↔ 1 ≤ n.toNat ∧ n.toNat ≤ 32 := by
  unfold bayByte bayOf
  split <;> simp_all

/-- R1: a bay is the one its own byte names. -/
theorem bayCode_of_bayByte (n : Byte) (b : Bay) (h : bayByte n = some b) : bayCode b = n := by
  unfold bayByte bayOf at h
  split at h
  case isTrue range =>
    cases h
    simp [bayCode, bayNum, Nat.sub_add_cancel range.1]
  case isFalse => cases h

theorem flagOf_isSome (n : Byte) : (flagOf n).isSome ↔ n = 0 ∨ n = 1 := by
  unfold flagOf
  split
  · simp_all
  · split <;> simp_all

theorem byte_of_flagOf (n : Byte) (f : Bool) (h : flagOf n = some f) : (if f then 1#8 else 0#8) = n := by
  unfold flagOf at h
  split at h
  · cases h; simp_all
  · split at h
    · cases h; simp_all
    · cases h

/-- R49: the bytes of an entry of the scan list. -/
def spelled (x : ScanEntry) : Byte × Byte := (bayCode x.bay, if x.high then 1#8 else 0#8)

/-- R49: the bytes that make an entry: a bay of R1 and a flag. -/
def IsEntry (e : Byte × Byte) : Prop := 1 ≤ e.1.toNat ∧ e.1.toNat ≤ 32 ∧ (e.2 = 0 ∨ e.2 = 1)

/-- R49: the list that SET SCAN LIST takes. -/
def ValidList (es : List (Byte × Byte)) : Prop := es.length ≤ 48 ∧ ∀ e ∈ es, IsEntry e

theorem scanEntryOf_eq_some (e : Byte × Byte) (x : ScanEntry) :
    scanEntryOf e = some x ↔ bayByte e.1 = some x.bay ∧ flagOf e.2 = some x.high := by
  obtain ⟨b, high⟩ := x
  unfold scanEntryOf
  cases bayByte e.1 <;> cases flagOf e.2 <;> simp

theorem scanEntryOf_isSome (e : Byte × Byte) : (scanEntryOf e).isSome ↔ IsEntry e := by
  have parts : (scanEntryOf e).isSome ↔ (bayByte e.1).isSome ∧ (flagOf e.2).isSome := by
    unfold scanEntryOf
    cases bayByte e.1 <;> cases flagOf e.2 <;> simp
  rw [parts, bayByte_isSome, flagOf_isSome, IsEntry, and_assoc]

theorem spelled_of_scanEntryOf (e : Byte × Byte) (x : ScanEntry) (h : scanEntryOf e = some x) : spelled x = e := by
  obtain ⟨hb, hf⟩ := (scanEntryOf_eq_some e x).mp h
  exact Prod.ext (bayCode_of_bayByte _ _ hb) (byte_of_flagOf _ _ hf)

/-- The entries of a list of valid bytes spell those bytes. -/
theorem entries_spell_bytes (es : List (Byte × Byte)) (h : ∀ e ∈ es, IsEntry e) :
    (es.filterMap scanEntryOf).map spelled = es := by
  induction es with
  | nil => rfl
  | cons e es ih =>
    obtain ⟨x, hx⟩ := Option.isSome_iff_exists.mp ((scanEntryOf_isSome e).mpr (h e (by simp)))
    rw [List.filterMap_cons_some hx, List.map_cons, spelled_of_scanEntryOf e x hx,
      ih fun e' he' => h e' (by simp [he'])]

/-! ### SET SCAN LIST (R49, R50) -/

/-- R49: the state with a new scan list, the round in progress abandoned. -/
def withScanList (es : List (Byte × Byte)) (s : State) : State :=
  abandonRound { s with scs := { s.scs with setList := es.filterMap scanEntryOf } }

/-- The request's payload for a list of entries. -/
def listPayload (es : List (Byte × Byte)) : List Byte := u8 es.length ++ es.flatMap fun e => [e.1, e.2]

/-- R49: BAD_VALUE stands for a list that is not valid. -/
theorem listCheck_iff (es : List (Byte × Byte)) :
    (es.length > Config.scanCapacity ∨ (!(es.all fun e => (scanEntryOf e).isSome)) = true) ↔ ¬ValidList es := by
  have entries : (es.all fun e => (scanEntryOf e).isSome) = true ↔ ∀ e ∈ es, IsEntry e := by
    simp [← scanEntryOf_isSome]
  rw [Bool.not_eq_true', ← Bool.not_eq_true, entries, ValidList, Classical.not_and_iff_not_or_not, Nat.not_le]
  rfl

/-- R49, R198: a well-formed payload is refused outside CONFIG and then for its values, and else taken. -/
theorem reqSetScanList_cases (es : List (Byte × Byte)) (s : State) (len : es.length ≤ 123) :
    (s.clu.mode ≠ .config → reqSetScanList (listPayload es) s = refuse .wrongMode s) ∧
    (s.clu.mode = .config → ¬ValidList es → reqSetScanList (listPayload es) s = refuse .badValue s) ∧
    (s.clu.mode = .config → ValidList es → reqSetScanList (listPayload es) s = accept (withScanList es s)) := by
  have count : (BitVec.ofNat 8 es.length).toNat = es.length := by rw [BitVec.toNat_ofNat]; omega
  simp only [listPayload, u8, List.singleton_append, reqSetScanList, count, parseScan_entries]
  refine ⟨fun mode => if_pos mode, fun mode bad => ?_, fun mode good => ?_⟩
  · rw [if_neg (not_not_intro mode), if_pos ((listCheck_iff es).mpr bad)]
  · rw [if_neg (not_not_intro mode), if_neg (mt (listCheck_iff es).mp (not_not_intro good))]; rfl

/-- R198: a request whose TAG is not 0 is answered with what its rule returns. -/
theorem takeRequest_answered (type tag : Byte) (payload : List Byte) (req : List Byte → State → State × Reply) (s : State)
    (h : tag ≠ 0) : takeRequest type tag payload req s =
      answered type tag (req payload (wake s)).2.result (req payload (wake s)).2.content (req payload (wake s)).1 := by
  simp only [takeRequest, event, if_neg h]; rfl

theorem exec_setScanList (tag : Byte) (payload : List Byte) (s t : State) (r : Result) (content : List Byte) (h : tag ≠ 0)
    (req : reqSetScanList payload (wake s) = (t, ⟨r, content⟩)) :
    exec (.setScanList tag payload) s = .next (answered 0x0E tag r content t) := by
  have run : exec (.setScanList tag payload) s = .next (takeRequest 0x0E tag payload reqSetScanList s) := rfl
  rw [run, takeRequest_answered _ _ _ _ _ h, req]

/-- R50, R52: the scan list is `s`'s and stands at its first entry; the report groups, the last duration and the bus are as
in `s`. -/
structure RestartsList (s t : State) : Prop where
  setList : t.scs.setList = s.scs.setList
  pos : t.scs.pos = 0
  lastDuration : t.scs.lastDuration = s.scs.lastDuration
  reports : t.scs.reports = s.scs.reports
  current : t.pbc.current = s.pbc.current

theorem beginRound_restarts (s : State) : RestartsList s (beginRound s) := by
  unfold beginRound
  split <;> exact ⟨rfl, rfl, rfl, rfl, rfl⟩

theorem paceRound_restarts (s : State) : RestartsList s (paceRound s) := by
  unfold paceRound
  dsimp only
  split
  · obtain ⟨list, pos, duration, reports, current⟩ :=
      beginRound_restarts { s with scs := { s.scs with pos := 0, round := .pacing } }
    exact ⟨list, pos, duration, reports, current⟩
  · exact ⟨rfl, rfl, rfl, rfl, rfl⟩

/-- R50: a new list takes effect from its first entry, whatever the SCS does. -/
theorem abandonRound_restarts (s : State) : RestartsList s (abandonRound s) := by
  unfold abandonRound
  cases s.scs.round with
  | stopped => exact paceRound_restarts s
  | starting | running | abandoned | pacing => exact ⟨rfl, rfl, rfl, rfl, rfl⟩

/-- R50: a round in progress is abandoned, its request left to end. -/
theorem abandonRound_inProgress (s : State) (h : s.scs.round = .running ∨ s.scs.round = .abandoned) :
    (abandonRound s).scs.round = .abandoned := by
  unfold abandonRound
  obtain h | h := h <;> rw [h]

/-- R50, R54: only a stopped SCS can start a round with the new list at once. -/
theorem abandonRound_notStopped (s : State) (h : s.scs.round ≠ .stopped) :
    (abandonRound s).scs.slow = s.scs.slow ∧ (abandonRound s).pbc = s.pbc := by
  unfold abandonRound
  cases r : s.scs.round with
  | stopped => exact absurd r h
  | starting | running | abandoned | pacing => exact ⟨rfl, rfl⟩

theorem withScanList_changesOnly (es : List (Byte × Byte)) (s : State) :
    ChangesOnly [.pbc, .scs] s (withScanList es s) := by
  simp [ChangesOnly, withScanList]

/-! ### The limits of the scan (R39, R52 to R54) -/

/-- R52: outside the wait for the next round its start is no event. -/
theorem startRound_notPacing (s : State) (h : s.scs.round ≠ .pacing) : startRound s = s := if_neg h

/-- R54: the empty list stops the SCS. -/
theorem startRound_empty (s : State) (h : s.scs.round = .pacing) (empty : effectiveList s = []) :
    startRound s = { s with
      clk := { s.clk with now := max s.clk.now (s.scs.roundStart + 250) }
      scs := { s.scs with roundList := [], pos := 0, round := .stopped, slow := false } } := by
  have list : effectiveList (elapseTo (s.scs.roundStart + 250) s) = [] := empty
  simp only [startRound, if_pos h, Config.pacingMs, beginRound, list]
  rfl

/-- R51, R52: the round starts at its 250 ms with the request of its first entry. -/
theorem startRound_list (s : State) (e : ScanEntry) (es : List ScanEntry) (h : s.scs.round = .pacing)
    (list : effectiveList s = e :: es) : startRound s =
      let now := max s.clk.now (s.scs.roundStart + 250)
      { s with
        clk := { s.clk with now := now }
        scs := { s.scs with
          roundList := e :: es, pos := 0, round := .running, roundStart := now, roundTick := s.clk.ticks }
        pbc := { s.pbc with scanReq := some ⟨e.bay, e.high, now⟩ } } := by
  have later : effectiveList (elapseTo (s.scs.roundStart + 250) s) = e :: es := list
  simp only [startRound, if_pos h, Config.pacingMs, beginRound, later]
  rfl

/-- R53: a round in progress at the second of its second ticks (log 22). -/
def LateRound (s : State) : Prop := s.scs.round = .running ∧ 2 ≤ s.clk.ticks - s.scs.roundTick

theorem slowRound_late (s : State) (h : LateRound s) : slowRound s = { s with scs := { s.scs with slow := true } } := by
  obtain ⟨running, late⟩ := h
  unfold slowRound
  rw [if_pos running]
  exact if_pos late

theorem slowRound_notLate (s : State) (h : ¬LateRound s) : slowRound s = s := by
  unfold slowRound
  split
  case isTrue running => exact if_neg fun late => h ⟨running, late⟩
  case isFalse => rfl

/-! ### The arbiter (R35, R39, R40) -/

/-- R39: a scan request waits that is older than 500 ms. -/
def Aged (s : State) : Prop := ∃ r ∈ s.pbc.scanReq, 500 < s.clk.now - r.made

/-- R38, R40: the first of the waiting class requests. -/
def firstRequest (s : State) : Option Request := s.pbc.class2.head?.or s.pbc.class3.head?

/-- R31, R35: the broadcast goes first, on a STUCK line too. -/
theorem arbitrate_broadcast (s : State) (idle : s.pbc.current = none) (h : s.pbc.broadcast = true) :
    arbitrate s = { s with pbc := { s.pbc with
      broadcast := false
      current := some ⟨.broadcast, none, .setOutputs ⟨false, false, .red⟩, false, false, .unseen, false⟩ } } := by
  unfold arbitrate
  simp [idle, h, allSafe]

theorem arbitrate_notNormal (s : State) (noBroadcast : s.pbc.broadcast = false) (h : s.pbc.line ≠ .normal) :
    arbitrate s = s := by
  cases line : s.pbc.line with
  | normal => exact absurd line h
  | stuck since next taken => exact arbitrate_stuck s since next taken line noBroadcast

/-- R40: the bus is idle on a normal line, and no broadcast waits. -/
structure BusFree (s : State) : Prop where
  idle : s.pbc.current = none
  noBroadcast : s.pbc.broadcast = false
  normal : s.pbc.line = .normal

theorem arbitrate_aged (s : State) (r : ScanReq) (free : BusFree s) (h : s.pbc.scanReq = some r)
    (old : 500 < s.clk.now - r.made) : arbitrate s = grantScan r s := by
  have isOld : promoted r s = true := decide_eq_true old
  simp [arbitrate, free.idle, free.noBroadcast, free.normal, h, isOld]

theorem arbitrate_notAged (s : State) (free : BusFree s) (h : ¬Aged s) : arbitrate s = grantByClass s := by
  simp only [arbitrate, free.idle, free.noBroadcast, free.normal]
  cases req : s.pbc.scanReq with
  | none => rfl
  | some r =>
    have young : promoted r s = false := decide_eq_false fun old => h ⟨r, req, old⟩
    simp [young]

theorem grantByClass_output (s : State) (e : OutEntry) (es : List OutEntry) (h : s.pbc.outQ = e :: es) :
    grantByClass s = { s with pbc := { s.pbc with
      outQ := es, current := some (transFor (.output e.marks) e.bay (.setOutputs s.pbc.images[e.bay]) s) } } := by
  simp [grantByClass, h]

/-- R38, R40: with no output write class 2 goes before class 3, each from its head. -/
theorem grantByClass_request (s : State) (r : Request) (noOutput : s.pbc.outQ = []) (h : firstRequest s = some r) :
    grantByClass s = { s with pbc := { s.pbc with
      class2 := s.pbc.class2.tail
      class3 := if s.pbc.class2 = [] then s.pbc.class3.tail else s.pbc.class3
      current := some (transFor r.who r.bay r.order s) } } := by
  unfold firstRequest at h
  cases two : s.pbc.class2 with
  | cons a q =>
    rw [two] at h; cases h
    simp [grantByClass, noOutput, two]
  | nil =>
    cases three : s.pbc.class3 with
    | cons a q =>
      rw [two, three] at h; cases h
      simp [grantByClass, noOutput, two, three]
    | nil => rw [two, three] at h; cases h

/-- R40: with no class request the scan request, if one waits, goes last. -/
theorem grantByClass_last (s : State) (noOutput : s.pbc.outQ = []) (h : firstRequest s = none) :
    grantByClass s = s.pbc.scanReq.elim s (grantScan · s) := by
  obtain ⟨two, three⟩ := Option.or_eq_none_iff.mp h
  rw [List.head?_eq_none_iff] at two three
  cases req : s.pbc.scanReq <;> simp [grantByClass, noOutput, two, three, req]

/-- R39, R40: the scan request is taken when it is older than 500 ms or when nothing else waits. -/
theorem arbitrate_scan (s : State) (r : ScanReq) (free : BusFree s) (h : s.pbc.scanReq = some r)
    (first : Aged s ∨ (s.pbc.outQ = [] ∧ firstRequest s = none)) : arbitrate s = grantScan r s := by
  by_cases aged : Aged s
  case pos =>
    obtain ⟨r', hr', old⟩ := aged
    have same : r = r' := Option.some.inj (h.symm.trans hr')
    exact arbitrate_aged s r free h (same ▸ old)
  case neg =>
    obtain ⟨noOutput, noRequest⟩ := first.resolve_left aged
    rw [arbitrate_notAged s free aged, grantByClass_last s noOutput noRequest, h, Option.elim_some]

theorem arbitrate_nothing (s : State) (free : BusFree s) (noScan : s.pbc.scanReq = none) (noOutput : s.pbc.outQ = [])
    (noRequest : firstRequest s = none) : arbitrate s = s := by
  have young : ¬Aged s := fun ⟨r, hr, _⟩ => by simp [noScan] at hr
  rw [arbitrate_notAged s free young, grantByClass_last s noOutput noRequest, noScan, Option.elim_none]

end Sys2Proof.ScanRounds

namespace Sys2Proof.Proofs

open Sys2Proof.Machine Sys2Proof.Safety Sys2Proof.ScanRounds

/-- Settles O42: SET SCAN LIST by the cases of its request, each limit by the cases of its event, and the arbiter clause by
clause in the order of R40. -/
theorem scanRoundsAreRun : Obligations.ScanRoundsAreRun := by
  refine ⟨?setList, ?start, ?slow, ?promotion, ?arbiter⟩
  case setList =>
    intro tag es s htag len w cmd valid
    obtain ⟨outside, invalid, taken⟩ := reqSetScanList_cases es w len
    refine ⟨fun mode => exec_setScanList _ _ _ _ _ _ htag (outside mode),
      fun mode bad => exec_setScanList _ _ _ _ _ _ htag (invalid mode bad), fun mode good => ?_⟩
    let v : State := { w with scs := { w.scs with setList := es.filterMap scanEntryOf } }
    obtain ⟨list, pos, duration, reports, current⟩ := abandonRound_restarts v
    refine ⟨withScanList es w, exec_setScanList _ _ _ _ _ _ htag (taken mode good), ?_, pos,
      fun round => ?_, abandonRound_notStopped v, duration, reports, ?_, current, withScanList_changesOnly es w⟩
    · exact (congrArg (List.map spelled) list).trans (entries_spell_bytes es good.2)
    · have running : w.scs.round ≠ .stopped := by obtain h | h := round <;> simp [h]
      exact ⟨abandonRound_inProgress v round, (abandonRound_notStopped v running).2⟩
    · simp [withScanList]
  case start =>
    intro s w started
    have run : exec .roundStart s = .next (finish (startRound w)) := rfl
    rw [run]
    refine ⟨fun h => ?_, fun h empty => ?_, fun e es list h => ?_⟩
    · rw [startRound_notPacing w h]
    · rw [startRound_empty w h empty]
    · rw [startRound_list w e es h list]
  case slow =>
    intro s w late
    have run : exec .roundSlowLimit s = .next (finish (slowRound w)) := rfl
    rw [run]
    exact ⟨fun h => by rw [slowRound_late w h], fun h => by rw [slowRound_notLate w h]⟩
  case promotion =>
    intro s w
    have run : exec .scanRequestPromotion s = .next (finish (ageScanRequest w)) := rfl
    rw [run]
    refine ⟨fun h => by simp [ageScanRequest, h], fun r hr => ?_⟩
    have h : w.pbc.scanReq = some r := hr
    refine ⟨elapseTo (r.made + 501) w, by simp [ageScanRequest, h, Config.promotionMs], rfl, ?_⟩
    rw [elapseTo_now]
    omega
  case arbiter =>
    intro s p onBus aged first
    refine ⟨fun busy => arbitrate_busy s (Option.isSome_iff_ne_none.mpr busy), arbitrate_broadcast s,
      fun _ => arbitrate_notNormal s, fun idle noBroadcast normal => ?_⟩
    have free : BusFree s := ⟨idle, noBroadcast, normal⟩
    refine ⟨fun r hr h => arbitrate_scan s r free hr h, fun young e es h => ?_, fun young noOutput r hr => ?_,
      arbitrate_nothing s free⟩
    · exact (arbitrate_notAged s free young).trans (grantByClass_output s e es h)
    · exact (arbitrate_notAged s free young).trans (grantByClass_request s r noOutput hr)

end Sys2Proof.Proofs
end
